-- ==== Sys2Proof/Word.lean ====
section
/-! DEFINITION. The words of the HJM-620: what its manual treats as bits.

A byte of a ring frame, a Time Base value and an encoder position are bit vectors, because the manual wraps them and
takes their differences modulo 2^32 (spec/00_scope.md, "Numbers and arithmetic").  Every other quantity of the manual
is a number (`Nat`, or `Int` where it is signed). -/

namespace Sys2Proof

/-- One byte of a frame or of the configuration image. -/
abbrev Byte := BitVec 8

/-- A value of the Time Base: a 32-bit count of milliseconds that wraps (R172). -/
abbrev Time := BitVec 32

/-- An encoder position or index capture: a 32-bit count that wraps freely (R36). -/
abbrev Pos := BitVec 32

/-- A serial: 16 ASCII characters (spec/00_scope.md, "Encodings on the ring"). -/
abbrev Serial := List Byte

end Sys2Proof
end

