-- ==== Sys2Proof/Syntax.lean ====
section
/-! DEFINITION. The commands of the block: one constructor per row of spec/opcode_table.json, in the table's order.

The table lists the part's steps, "each whole and indivisible" (spec/95_what_each_step_holds.md).  What a step takes
from OUTSIDE the part stands as an operand: the levels of the pins, the bytes of an arriving frame, the image in the
configuration memory, which stream's timeout expires.  A request's arguments do not: they reach the part inside a
REQUEST frame (`frameArrival`), wait in the request queue (R165), and the request's own row is the step in which the
Request Unit takes the oldest waiting request and executes it (R166); so those rows read their arguments from `State`
(notes/assumptions/1.md). -/

namespace Sys2Proof

/-- The steps of the HJM-620 (spec/opcode_table.json). -/
inductive Instr where
  /-- POWER_ON (R172): power is applied; every block is held in its power-on state. -/
  | powerOn
  /-- PIN_RESET (R1, R172): RESET_N is asserted; the whole part is held in reset. -/
  | pinReset
  /-- RESET_END (R172): the reset ends with these levels on the node-number straps, the load strap and the guard
  input (`guardAsserted`: the pin is low, the door is open). -/
  | resetEnd (straps : BitVec 4) (loadStrap : Bool) (guardAsserted : Bool)
  /-- CONFIG_IMAGE_READ (R173): the image read completes; `none` when the memory does not answer on its bus, otherwise
  the bytes it holds from address 0 on. -/
  | configImageRead (image : Option (List Byte))
  /-- CONFIG_RECORD_REPLAY (R174): the next stored record is executed. -/
  | configRecordReplay
  /-- FRAME_ARRIVAL (R3, R5): a whole frame arrives; the bytes between its delimiters, header to CRC. -/
  | frameArrival (bytes : List Byte)
  /-- FRAGMENT (R3): a reception ends as a fragment. -/
  | fragment
  /-- TRANSMISSION_END (R11, R12): the end delimiter of the frame on the transmit line leaves the port. -/
  | transmissionEnd
  /-- RING_DOWN_TIMEOUT (R13): 2 ms without a good arrival. -/
  | ringDownTimeout
  /-- STALE_TIMEOUT (R24): the stale timeout of stream table entry `entry` expires. -/
  | staleTimeout (entry : Nat)
  /-- GUARD (R96): the guard line takes the given level. -/
  | guard (asserted : Bool)
  /-- ASSEMBLY_TIMEOUT (R177): 100 ms without a continuation. -/
  | assemblyTimeout
  /-- RAMP_END (R85). -/
  | rampEnd
  /-- SETTLE_END (R85). -/
  | settleEnd
  /-- HOLD_END (R87). -/
  | holdEnd
  /-- SPEED_PERSIST_EXPIRY (R92). -/
  | speedPersistExpiry
  /-- DRIVE_REFRESH (R89). -/
  | driveRefresh
  /-- STOP_TIMEOUT (R99). -/
  | stopTimeout
  /-- FILL_TIMEOUT (R127). -/
  | fillTimeout
  /-- LEAK_SETTLE_END (R128). -/
  | leakSettleEnd
  /-- MEASURE_END (R131). -/
  | measureEnd
  /-- VENT_TIMEOUT (R137). -/
  | ventTimeout
  /-- VALVE_REFRESH (R125). -/
  | valveRefresh
  /-- BAD_REQUEST (R167): the oldest waiting request fails the form check and is answered so. -/
  | badRequest
  /-- BIND (R51). -/
  | bind
  /-- RESET (R169). -/
  | reset
  /-- STATION_RESET_CLEARING (R170). -/
  | stationResetClearing
  /-- READ_STATUS (R168). -/
  | readStatus
  /-- SET_NOTICE (R160). -/
  | setNotice
  /-- CLEAR_NOTICE (R159). -/
  | clearNotice
  /-- LOAD_STREAM (R16). -/
  | loadStream
  /-- LOAD_CHANNEL (R25). -/
  | loadChannel
  /-- CHANNEL_ENABLE (R26). -/
  | channelEnable
  /-- CLEAR_CHANNEL (R32). -/
  | clearChannel
  /-- READ_CHANNEL (R35). -/
  | readChannel
  /-- READ_ANGLE (R50). -/
  | readAngle
  /-- CLEAR_ANGLE (R49). -/
  | clearAngle
  /-- LOAD_STAND (R54). -/
  | loadStand
  /-- LOAD_VARIANT (R56). -/
  | loadVariant
  /-- LOAD_PROFILE (R58). -/
  | loadProfile
  /-- LOAD_ORDER_SET (R60). -/
  | loadOrderSet
  /-- SWAP_ORDER_SET (R62). -/
  | swapOrderSet
  /-- READ_TABLE (R66). -/
  | readTable
  /-- ADMIT (R70, R71). -/
  | admitUnit
  /-- ADVANCE_A (R72). -/
  | advanceA
  /-- ADVANCE_B (R73). -/
  | advanceB
  /-- RELEASE (R74, R75). -/
  | release
  /-- WITHDRAW (R76, R77). -/
  | withdraw
  /-- READ_UNIT (R79). -/
  | readUnit
  /-- START_SPIN (R83, R84). -/
  | startSpin
  /-- ABORT_SPIN (R95). -/
  | abortSpin
  /-- CLEAR_FAULT_A (R100). -/
  | clearFaultA
  /-- START_LEAK (R122, R123). -/
  | startLeak
  /-- ABORT_LEAK (R135). -/
  | abortLeak
  /-- CLEAR_FAULT_B (R138). -/
  | clearFaultB
  /-- READ_STATS (R148). -/
  | readStats
  /-- CLEAR_STATS (R147). -/
  | clearStats
  /-- RELEASE_VARIANT (R146). -/
  | releaseVariant
  deriving DecidableEq, Repr

end Sys2Proof
end

