-- ==== Sys2Proof/Decode.lean ====
section
/-! DEFINITION. The command that a word of spec/opcode_table.json's bits spells.

The table gives no row any bits (every row's "fields" is empty and none has "fixed"; spec/98_reader.md counts
`n_rows_with_fixed` 0), so no word spells a command.  What the part itself decodes, the bytes of ring frames and
of requests, is read in Sys2Proof/Machine/Frames.lean and Sys2Proof/Machine/Operands.lean. -/

namespace Sys2Proof

/-- No row of the table has bits, so no word spells a command. -/
def decodeTableWord (_nbits _w : Nat) : Option Instr := none

end Sys2Proof
end

