-- ==== Sys2Proof/Config.lean ====
section
/-! DEFINITION. The free values: what the manual leaves open and the model does not choose.

Each is an opaque constant, so no proof can see what it is.  `State.freeCount` says how many have been drawn. -/

namespace Sys2Proof

/-- With several internal events due together and no command waiting, which is taken first: the manual lets any of
them be ("if ... is taken first" in R24, R64, R85, R89, R92, R99, R125, R127, R131, R166).  DESIGN CHOICE: a free value;
notes/assumptions/3.md. -/
opaque Config.idleChoice : Nat → Nat

/-- When a stream's going STALE also ends the open analysis window, whether the Order Engine hears of it before the
Run-in Sequencer closes the window: R116 gives the outcome of either order and chooses neither.  DESIGN CHOICE: a free
value; notes/assumptions/4.md. -/
opaque Config.engineToldFirst : Nat → Bool

/-- Whether a stored record that R177 drops, with no assembly open to break, lets the replay of R174 go on: the manual
does not say how such a record is answered.  DESIGN CHOICE: a free value; notes/assumptions/5.md. -/
opaque Config.droppedRecordGoesOn : Nat → Bool

/-- What a field of a report or of a READ_UNIT reply carries when the number in it lies outside what the field's bytes can
hold: section 12.4 gives the field its width and no clamp for it.  DESIGN CHOICE: a free value;
notes/assumptions/13.md. -/
opaque Config.overwide : Int → Nat

end Sys2Proof
end

