-- ==== Sys2Proof/Machine/Arith.lean ====
section
/-! DEFINITION. The arithmetic of spec/00_scope.md, "Numbers and arithmetic": saturating counters, clamping, floored
division, elapsed time and signed differences modulo 2^32, and the integer square root of R113. -/

namespace Sys2Proof.Machine

/-- A saturating counter's next value. -/
def satSucc (max n : Nat) : Nat := if n < max then n + 1 else max

/-- A 16-bit saturating count's next value. -/
def sat16 (n : Nat) : Nat := satSucc 65535 n

/-- `z` replaced by the nearest end of `lo..hi`. -/
def clamp (lo hi z : Int) : Int := if z < lo then lo else if hi < z then hi else z

/-- floor(a / b), rounding toward minus infinity. -/
def floorDiv (a b : Int) : Int := Int.fdiv a b

/-- By how much the Time Base has advanced from `start` to `now`, modulo 2^32 (R172). -/
def elapsed (now start : Time) : Nat := (now - start).toNat

/-- `a` minus `b`, taken modulo 2^32 and read as a signed 32-bit number (R39). -/
def signedDiff (a b : Pos) : Int := (a - b).toInt

/-- The larger of a value that may be absent and a new one. -/
def maxOpt (old : Option Int) (x : Int) : Option Int :=
  match old with
  | none => some x
  | some y => some (max y x)

/-- The smaller of a value that may be absent and a new one. -/
def minOpt (old : Option Int) (x : Int) : Option Int :=
  match old with
  | none => some x
  | some y => some (min y x)

/-- The larger of a magnitude that may be absent and a new one. -/
def maxNatOpt (old : Option Nat) (x : Nat) : Option Nat :=
  match old with
  | none => some x
  | some y => some (max y x)

/-- Bit by bit from bit `bits - 1` down: the largest root below `acc + 2^bits` whose square does not exceed `m`. -/
def isqrtFrom (m : Nat) : Nat → Nat → Nat
  | 0, acc => acc
  | bits + 1, acc =>
    let trial := acc + 2 ^ bits
    if trial * trial ≤ m then isqrtFrom m bits trial else isqrtFrom m bits acc

/-- floor(√m), the largest integer whose square does not exceed `m` (R113). -/
def isqrt (m : Nat) : Nat := isqrtFrom m (Nat.log2 m / 2 + 1) 0

/-- `xs` with its element at `i` changed by `f`; nothing changes beyond the end. -/
def modifyAt {α : Type} (f : α → α) : List α → Nat → List α
  | [], _ => []
  | x :: xs, 0 => f x :: xs
  | x :: xs, i + 1 => x :: modifyAt f xs i

/-- Whether an order or a list names the same member twice. -/
def allDistinct {α : Type} [DecidableEq α] : List α → Bool
  | [] => true
  | x :: xs => !xs.contains x && allDistinct xs

end Sys2Proof.Machine
end

