-- ==== Sys2Proof/Machine/Bytes.lean ====
section
/-! DEFINITION. Byte order, signed fields and the CRC (spec/12_frame_formats.md, R4, R176): every multi-byte field
travels most significant byte first, signed fields are two's complement. -/

namespace Sys2Proof.Machine

/-- The least significant byte of a number. -/
def byteOf (n : Nat) : Byte := BitVec.ofNat 8 n

/-- A 1-byte field. -/
def enc1 (n : Nat) : List Byte := [byteOf n]

/-- A 2-byte field, most significant byte first. -/
def enc2 (n : Nat) : List Byte := [byteOf (n / 256), byteOf n]

/-- A 4-byte field, most significant byte first. -/
def enc4 (n : Nat) : List Byte := enc2 (n / 65536) ++ enc2 n

/-- A signed 2-byte field, two's complement. -/
def encS2 (z : Int) : List Byte := enc2 (z % 65536).toNat

/-- A signed 4-byte field, two's complement. -/
def encS4 (z : Int) : List Byte := enc4 (z % 4294967296).toNat

/-- Yes and no are coded 1 and 0 (R176). -/
def encBool (b : Bool) : List Byte := enc1 (if b then 1 else 0)

/-- A Time Base value or an encoder position. -/
def encWord (w : BitVec 32) : List Byte := enc4 w.toNat

/-- An optional field of a reply: a presence byte, then the field if it is present (R176). -/
def encOpt {α : Type} (f : α → List Byte) : Option α → List Byte
  | none => [0]
  | some x => 1 :: f x

/-- "None" and "absent" are coded 0xFF in a 1-byte field (R176). -/
def encNone (n : Option Nat) : List Byte := enc1 (n.getD 255)

/-- A list is preceded by a count byte (R176). -/
def encList {α : Type} (f : α → List Byte) (xs : List α) : List Byte := enc1 xs.length ++ xs.flatMap f

/-- The number that bytes spell, most significant first. -/
def decNat (bytes : List Byte) : Nat := bytes.foldl (fun n b => n * 256 + b.toNat) 0

/-- The first `width` bytes as a number, and the rest; none when fewer are there. -/
def takeNat (width : Nat) (bytes : List Byte) : Option (Nat × List Byte) :=
  if width ≤ bytes.length then some (decNat (bytes.take width), bytes.drop width) else none

/-- Fields of the given widths from the front of `bytes`, and the rest. -/
def takeFields : List Nat → List Byte → Option (List Nat × List Byte)
  | [], bytes => some ([], bytes)
  | w :: ws, bytes =>
    match takeNat w bytes with
    | none => none
    | some (n, rest) =>
      match takeFields ws rest with
      | none => none
      | some (ns, rest') => some (n :: ns, rest')

/-- Fields of the given widths that take up the whole of `bytes`. -/
def fieldsOf (widths : List Nat) (bytes : List Byte) : Option (List Nat) :=
  match takeFields widths bytes with
  | some (ns, []) => some ns
  | _ => none

/-- `count` times the fields of the given widths, and the rest. -/
def takeRows (widths : List Nat) : Nat → List Byte → Option (List (List Nat) × List Byte)
  | 0, bytes => some ([], bytes)
  | count + 1, bytes =>
    match takeFields widths bytes with
    | none => none
    | some (row, rest) =>
      match takeRows widths count rest with
      | none => none
      | some (rows, rest') => some (row :: rows, rest')

/-- A list of rows preceded by its count byte, and the rest (R176). -/
def takeCounted (widths : List Nat) (bytes : List Byte) : Option (List (List Nat) × List Byte) :=
  match bytes with
  | [] => none
  | n :: rest => takeRows widths n.toNat rest

/-- A 16-bit number read as two's complement. -/
def signed16 (n : Nat) : Int := if n < 32768 then n else (n : Int) - 65536

/-- A 32-bit number read as two's complement. -/
def signed32 (n : Nat) : Int := if n < 2147483648 then n else (n : Int) - 4294967296

/-- One bit into the CRC register; the generator is x^16 + x^12 + x^5 + 1 (R4). -/
def crcBit (crc : BitVec 16) (bit : Bool) : BitVec 16 :=
  if crc.msb != bit then (crc <<< 1) ^^^ 0x1021#16 else crc <<< 1

/-- One byte into the CRC register, most significant bit first (R4). -/
def crcByte (crc : BitVec 16) (b : Byte) : BitVec 16 :=
  [7, 6, 5, 4, 3, 2, 1, 0].foldl (fun c i => crcBit c (b.getLsbD i)) crc

/-- The CRC of R4: preset to all ones, no final inversion. -/
def crc16 (bytes : List Byte) : BitVec 16 := bytes.foldl crcByte 0xFFFF#16

end Sys2Proof.Machine
end

