-- ==== Sys2Proof/Machine/State.lean ====
section
/-! DEFINITION. The state of the HJM-620, block by block (spec/00_scope.md, "Functional overview"), as plain data, and
the state right after reset.

Where the manual says that a field is "absent", "present only while ..." or "defined in ...", the field stands inside
the constructor or `Option` that is there exactly then. -/

namespace Sys2Proof.Machine

/-! ## Why a step stops -/

/-- Why the machine would stop with a fault.  The manual describes no condition in which the part stops: every error it
names is a state of a block, a count, a notice or a completion code.  So the type has no constructor, and no command
ends in a fault. -/
inductive Fault where
  deriving DecidableEq, Repr

/-- Why a command is refused by the MODEL (a request that the PART refuses is answered by a completion code, and its
command ends in a next state). -/
inductive Refusal where
  /-- Raised by `exec` alone, for a command without a meaning; safe.  No command is without one. -/
  | notModelled (mnemonic : String)
  deriving DecidableEq, Repr

/-! ## The ring (spec/01_the_station_ring.md, spec/12_frame_formats.md) -/

/-- The three port states of section 1.1. -/
inductive PortState where
  | bypass | down | up
  deriving DecidableEq, Repr

/-- Drive command (R88): its five values. -/
structure DriveCommand where
  run : Bool
  number : Nat
  speed : Int
  ramp : Nat
  torque : Int
  deriving DecidableEq, Repr

/-- The kinds of valve command, in the order of their codes (R124, section 12.1). -/
inductive ValveKind where
  | fill | isolate | vent
  deriving DecidableEq, Repr

/-- Valve command (R124): its two values. -/
structure ValveCommand where
  kind : ValveKind
  number : Nat
  deriving DecidableEq, Repr

/-- Where the frame on the transmit line came from, and so where its transmission report goes (R12, R161). -/
inductive Origin where
  /-- a transit frame, or a frame repeated in BYPASS -/
  | transit
  /-- the drive command slot; the command's number (R162) -/
  | drive (number : Nat)
  /-- the valve command slot; the command's number (R162) -/
  | valve (number : Nat)
  /-- the reply queue (R163) -/
  | reply
  /-- the Notice Unit (R158) -/
  | notice
  /-- the Report Queue: report number and segment index (R153, R154) -/
  | report (number segment : Nat)
  deriving DecidableEq, Repr

/-- The frame on the transmit line, header to CRC. -/
structure TxFrame where
  bytes : List Byte
  origin : Origin
  deriving DecidableEq, Repr

/-- The Ring Port. -/
structure Ring where
  /-- node number, 0..15 (R1) -/
  node : Nat
  port : PortState
  /-- forward buffer, oldest first (R10) -/
  buffer : List (List Byte)
  /-- the transmit line: busy with a frame, or idle (R10, R11) -/
  line : Option TxFrame
  /-- time stamp of the most recent good arrival (R13) -/
  stamp : Option Time
  /-- set at the first entry to UP (R14) -/
  everUp : Bool
  bad : Nat
  stripped : Nat
  expired : Nat
  discarded : Nat
  forwarded : Nat
  deriving DecidableEq, Repr

/-- The pins the manual gives the part (section 11.7), at the levels last given. -/
structure Pins where
  /-- the four node-number straps -/
  straps : BitVec 4
  /-- load strap tied high -/
  loadStrap : Bool
  /-- RESET_N held low, or the supply not yet good (R172) -/
  resetHeld : Bool
  /-- guard input low: the door is open -/
  guardLow : Bool
  deriving DecidableEq, Repr

/-! ## Streams and channels (spec/02_streams_and_channels.md) -/

inductive Disposition where
  | forward | absorb
  deriving DecidableEq, Repr

/-- One loaded entry of the stream table (section 2.1). -/
structure StreamConfig where
  enable : Bool
  source : Nat
  number : Nat
  count : Nat
  hasPosition : Bool
  hasIndex : Bool
  fs : Nat
  stale : Nat
  disposition : Disposition
  binding : List (Option Nat)
  deriving DecidableEq, Repr

inductive StreamState where
  | waiting | live | stale
  deriving DecidableEq, Repr

/-- The set last delivered to the channels (section 2.2). -/
structure DeliveredSet where
  values : List Int
  position : Option Pos
  deriving DecidableEq, Repr

/-- Stream runtime (section 2.2). -/
structure StreamRun where
  state : StreamState
  /-- defined in LIVE -/
  expected : Option Nat
  /-- defined in LIVE and STALE -/
  lastArrival : Option Time
  /-- defined in LIVE and STALE -/
  last : Option DeliveredSet
  accepted : Nat
  filled : Nat
  duplicate : Nat
  malformed : Nat
  gap : Nat
  deriving DecidableEq, Repr

/-- One entry: empty (no configuration) or loaded.  A disabled entry's `run` is the cleared runtime. -/
structure StreamEntry where
  config : Option StreamConfig
  run : StreamRun
  deriving DecidableEq, Repr

inductive Role where
  | vibration | sound | torque | oilTemp | pressure | ambientTemp
  deriving DecidableEq, Repr

inductive Bay where
  | a | b
  deriving DecidableEq, Repr

/-- Channel configuration (section 2.5); `bay` may be none for AMBIENT_TEMP, which does not use it. -/
structure ChannelConfig where
  role : Role
  bay : Option Bay
  gain : Int
  offset : Int
  clip : Nat
  flat : Nat
  rangeMin : Int
  rangeMax : Int
  deriving DecidableEq, Repr

inductive FaultKind where
  | flat | range
  deriving DecidableEq, Repr

/-- Channel status; the fault kind is present in FAULT (section 2.6). -/
inductive ChannelStatus where
  | disabled | waiting | ok | held | stale
  | fault (kind : FaultKind)
  deriving DecidableEq, Repr

/-- One logical channel: configuration (none: unloaded), two enable flags, runtime (sections 2.5, 2.6). -/
structure Channel where
  config : Option ChannelConfig
  acquire : Bool
  diagnose : Bool
  status : ChannelStatus
  lastRaw : Option Int
  lastValue : Option Int
  clipCount : Nat
  filledCount : Nat
  flatRun : Nat
  deriving DecidableEq, Repr

/-! ## Shaft angle (spec/03_shaft_angle_and_speed.md) -/

inductive AngleMode where
  | index | wrap
  deriving DecidableEq, Repr

inductive Direction where
  | forward | reverse
  deriving DecidableEq, Repr

/-- The kind of point at which a revolution begins or ends (section 3.7). -/
inductive PointKind where
  | capture | threshold
  deriving DecidableEq, Repr

/-- The fields of section 3.2 that are defined in LOCKED and frozen in FAULT (R37). -/
structure Track where
  reference : Pos
  carried : Bool
  direction : Direction
  moved : Bool
  revolutions : BitVec 32
  current : Nat
  last : Option Nat
  startKind : PointKind
  revSpeed : Option Int
  shaftSpeed : Option Int
  angle16 : Option Nat
  consecutive : Nat
  deriving DecidableEq, Repr

inductive AngleState where
  | noReference
  | locked (track : Track)
  | fault (track : Track)
  deriving DecidableEq, Repr

/-- The Angle Unit (section 3.2) with the position history of R46, oldest first. -/
structure Angle where
  state : AngleState
  totalSlips : Nat
  standstill : Bool
  history : List (Time × Pos)
  historyStart : Option Time
  deriving DecidableEq, Repr

/-! ## Table Memory (spec/04_tables_stand_variants_profiles_and_order_sets.md) -/

/-- The stand record (section 4.2). -/
structure Stand where
  angleSource : Nat
  cpr : Nat
  mode : AngleMode
  tolerance : Nat
  standstillWindow : Nat
  driveNode : Nat
  valveNode : Nat
  refresh : Nat
  stopRamp : Nat
  stopTimeout : Nat
  ventThreshold : Nat
  ventTimeout : Nat
  defaultAmbient : Int
  patm : Nat
  deriving DecidableEq, Repr

/-- A set of the three checks RUNIN, NOISE, LEAK. -/
structure Checks where
  runin : Bool
  noise : Bool
  leak : Bool
  deriving DecidableEq, Repr

/-- A variant record (section 4.3). -/
structure Variant where
  id : Nat
  pinionTeeth : Nat
  ringTeeth : Nat
  profile : Nat
  required : Checks
  oilLimit : Int
  speedTolerance : Nat
  speedPersist : Nat
  targetPressure : Nat
  fillBand : Nat
  fillTimeout : Nat
  settleTime : Nat
  measureTime : Nat
  window : Nat
  volume : Nat
  leakLimit : Nat
  coolingSpan : Nat
  retestLimit : Nat
  holdThreshold : Nat
  deriving DecidableEq, Repr

/-- A profile segment (section 4.4). -/
structure Segment where
  target : Int
  ramp : Nat
  settle : Nat
  hold : Nat
  load : Int
  torqueLimit : Nat
  slot : Option Nat
  deriving DecidableEq, Repr

structure CurvePoint where
  speed : Nat
  limit : Nat
  deriving DecidableEq, Repr

inductive OrderBase where
  | shaft | mesh | wheel | direct
  deriving DecidableEq, Repr

structure OrderEntry where
  base : OrderBase
  harmonic : Nat
  direct : Nat
  curve : List CurvePoint
  deriving DecidableEq, Repr

/-- An order set (section 4.5): `revs` is B, `minValid` m, `failCount` k. -/
structure OrderSet where
  revs : Nat
  minValid : Nat
  failCount : Nat
  steadiness : Nat
  channels : List Nat
  orders : List OrderEntry
  deriving DecidableEq, Repr

/-- An order-set slot; a copy is loaded when it is `some` (section 4.5). -/
structure OrderSlot where
  active : Option OrderSet
  shadow : Option OrderSet
  swapPending : Bool
  deriving DecidableEq, Repr

/-- The five sizes of BIND (section 4.1). -/
structure Sizes where
  v : Nat
  p : Nat
  s : Nat
  o : Nat
  k : Nat
  deriving DecidableEq, Repr

/-- A variant slot's statistics (section 9.2). -/
structure Stats where
  tested : Nat
  accepted : Nat
  rejected : Nat
  incomplete : Nat
  frozen : Bool
  runinRejects : Nat
  noiseRejects : Nat
  leakRejects : Nat
  held : Bool
  holdChecks : Checks
  deriving DecidableEq, Repr

structure VariantSlot where
  record : Option Variant
  stats : Stats
  deriving DecidableEq, Repr

/-- The partition fixed by BIND and its tables (R51).  A profile is empty when it is `none`. -/
structure Tables where
  sizes : Sizes
  variants : List VariantSlot
  profiles : List (Option (List Segment))
  orderSets : List OrderSlot
  deriving DecidableEq, Repr

/-! ## Units on the line (spec/05_units_on_the_line.md) -/

inductive Position where
  | bayA | transfer | bayB
  deriving DecidableEq, Repr

/-- Causes of a run-in FAIL, in the order of section 5.2. -/
inductive RuninFailCause where
  | torque | oilTemp | speed
  deriving DecidableEq, Repr

/-- Causes of a run-in ABORTED, in the order of section 5.2. -/
inductive RuninAbortCause where
  | request | guard | stream | channel | angle
  deriving DecidableEq, Repr

inductive RuninOutcome where
  | pass
  | fail (cause : RuninFailCause)
  | aborted (cause : RuninAbortCause)
  deriving DecidableEq, Repr

inductive RuninResult where
  | notRun | running
  | done (outcome : RuninOutcome)
  deriving DecidableEq, Repr

inductive NoiseResult where
  | notRun | pass | fail | noResult
  deriving DecidableEq, Repr

/-- Causes of a leak FAIL, in the order of section 5.2. -/
inductive LeakFailCause where
  | gross | rate
  deriving DecidableEq, Repr

/-- Causes of a leak ABORTED, in the order of section 5.2. -/
inductive LeakAbortCause where
  | request | pressureHigh | stream | channel
  deriving DecidableEq, Repr

inductive LeakOutcome where
  | pass
  | fail (cause : LeakFailCause)
  | aborted (cause : LeakAbortCause)
  deriving DecidableEq, Repr

inductive LeakStatus where
  | notRun | running
  | done (outcome : LeakOutcome)
  deriving DecidableEq, Repr

/-- The leak result of R133. -/
structure LeakResult where
  p1 : Int
  p2 : Int
  dMeas : Int
  dTherm : Int
  dLeak : Int
  q : Nat
  uncompensated : Bool
  gain : Bool
  deriving DecidableEq, Repr

/-- A segment summary (R87). -/
structure Summary where
  segment : Nat
  meanTorque : Option Int
  maxTorque : Option Nat
  maxOil : Option Int
  minSpeed : Option Int
  maxSpeed : Option Int
  valid : Nat
  unavailable : Bool
  deriving DecidableEq, Repr

/-- A pair's worst block (R115). -/
structure Worst where
  a : Nat
  l : Nat
  v : Int
  margin : Int
  deriving DecidableEq, Repr

/-- A finding's verdict and, for NO_RESULT, its cause (R116). -/
inductive FindingVerdict where
  | pass | fail | fewBlocks | unavailable
  deriving DecidableEq, Repr

/-- A finding (R116). -/
structure Finding where
  segment : Nat
  order : Nat
  channel : Nat
  valid : Nat
  fail : Nat
  invalid : Nat
  worst : Option Worst
  verdict : FindingVerdict
  deriving DecidableEq, Repr

/-- A unit record (section 5.2). -/
structure UnitRecord where
  serial : Serial
  variantId : Nat
  position : Position
  admittedAt : Time
  runin : RuninResult
  endSegment : Option Nat
  stopTimeout : Option Bool
  noise : NoiseResult
  leak : LeakStatus
  retests : Nat
  tEnd : Option Int
  tEndAt : Option Time
  maxTorque : Option Nat
  maxOil : Option Int
  guardTime : Option Time
  summaries : List Summary
  findings : List Finding
  truncated : Bool
  leakResult : Option LeakResult
  deriving DecidableEq, Repr

/-! ## Run-in Sequencer (spec/06_run_in.md) -/

/-- The states of section 6.1 other than IDLE. -/
inductive SpinPhase where
  | ramp | settle | hold | stopping | faulted
  deriving DecidableEq, Repr

/-- The HOLD accumulators (R82, R90). -/
structure HoldAcc where
  torqueSum : Int
  torqueCount : Nat
  maxTorque : Option Nat
  maxOil : Option Int
  minSpeed : Option Int
  maxSpeed : Option Int
  deriving DecidableEq, Repr

/-- The fields of R82 that are present outside IDLE. -/
structure SpinRun where
  phase : SpinPhase
  segment : Nat
  phaseStart : Time
  pending : Option RuninOutcome
  written : Bool
  torqueChannel : Nat
  oilChannel : Nat
  stand : Stand
  variant : Variant
  profile : List Segment
  errorStart : Option Time
  acc : HoldAcc
  /-- the Order Engine's answer at HOLD entry: analysis unavailable (R86) -/
  unavailable : Bool
  deriving DecidableEq, Repr

/-- The Run-in Sequencer; IDLE when `run` is none. -/
structure RunIn where
  run : Option SpinRun
  /-- the outcome segment (R82): set with each pending outcome (R94) and, where R98 clears the pending outcome alone, kept
  in IDLE (DEDUCED, notes/assumptions/38.md) -/
  outcomeSegment : Option Nat
  commandNumber : Nat
  lastCommand : Option DriveCommand
  refreshStart : Option Time
  /-- guard state: ASSERTED or RELEASED (R96) -/
  guardAsserted : Bool
  deriving DecidableEq, Repr

/-! ## Order Engine (spec/07_order_analysis.md) -/

inductive ChannelEntry where
  | included | excluded | withdrawn
  deriving DecidableEq, Repr

/-- The finding accumulator of one (order, channel) pair (section 7.1). -/
structure PairCount where
  valid : Nat
  fail : Nat
  invalid : Nat
  worst : Option Worst
  deriving DecidableEq, Repr

/-- The block in flight (section 7.1).  `sums` holds (C, S) per pair, by order and then by channel. -/
structure Block where
  r : Nat
  n : Nat
  filled : Nat
  clipped : Bool
  /-- smallest and largest per-revolution |speed| -/
  spread : Option (Nat × Nat)
  direction : Option Direction
  mixed : Bool
  sums : List (List (Int × Int))
  deriving DecidableEq, Repr

/-- An open window: WAIT_INDEX when `block` is none, ACCUMULATING otherwise (R102). -/
structure Window where
  segment : Nat
  slot : Nat
  orderValues : List Nat
  channels : List (Nat × ChannelEntry)
  validBlocks : Nat
  pairs : List (List PairCount)
  block : Option Block
  deriving DecidableEq, Repr

/-- The Order Engine; CLOSED when `window` is none.  The three flags are the run record. -/
structure Engine where
  window : Option Window
  failSeen : Bool
  noResultSeen : Bool
  unavailableSeen : Bool
  deriving DecidableEq, Repr

/-! ## Leak Sequencer (spec/08_leak_testing.md) -/

/-- The states of section 8.1 other than IDLE. -/
inductive LeakPhase where
  | fill | settle | measure | vent | faulted
  deriving DecidableEq, Repr

/-- The fields of R121 that are present outside IDLE.  The sums of the two lists are `List.sum` of them. -/
structure LeakRun where
  phase : LeakPhase
  phaseStart : Time
  channel : Nat
  stand : Stand
  variant : Variant
  tMs : Option Time
  ambient : Option Int
  first : List Int
  recent : List Int
  pending : Option LeakOutcome
  result : Option LeakResult
  written : Bool
  deriving DecidableEq, Repr

/-- The Leak Sequencer; IDLE when `run` is none. -/
structure Leak where
  run : Option LeakRun
  /-- the measure count (R121): it has no state in which alone it is present, so it is kept in IDLE until the next
  START_LEAK clears it (R123; DEDUCED, notes/assumptions/38.md) -/
  count : Nat
  commandNumber : Nat
  lastCommand : Option ValveKind
  refreshStart : Option Time
  suppressed : Bool
  deriving DecidableEq, Repr

/-! ## Reports (spec/09_verdicts_reports_and_variant_statistics.md) -/

inductive Verdict where
  | accept | reject | incomplete | withdrawn
  deriving DecidableEq, Repr

/-- A report (R149).  The position inside `unit` is not part of the report: no segment carries it. -/
structure Report where
  number : Nat
  verdict : Verdict
  basis : Checks
  required : Checks
  unit : UnitRecord
  deriving DecidableEq, Repr

/-- The Report Queue, oldest first (R150), and the next report number (R149). -/
structure ReportQueue where
  reports : List Report
  transmitted : Nat
  next : Nat
  deriving DecidableEq, Repr

/-! ## Notices and outbound frames (spec/10_notices_and_outbound_scheduling.md) -/

/-- The fourteen notice sources, in the order of their numbers (section 10.1). -/
inductive Source where
  | stopTimeout | ventTimeout | channelFault | angleFault | streamStale | requestOverrun | configLoadFailed
  | runinEnd | leakEnd | unitClosed | variantHeld | guard | orderSetSwapped | ringRestored
  deriving DecidableEq, Repr

/-- The detail of an occurrence, by the forms of section 12.3. -/
inductive Detail where
  /-- channel, stream or slot number -/
  | number (n : Nat)
  /-- tag and source node of the discarded request -/
  | overrun (tag source : Nat)
  /-- record number -/
  | record (n : Nat)
  | runin (outcome : RuninOutcome)
  | leak (outcome : LeakOutcome)
  | verdict (v : Verdict)
  /-- variant id, slot, hold checks -/
  | held (id slot : Nat) (checks : Checks)
  /-- new level (asserted) and time of the edge -/
  | edge (asserted : Bool) (at_ : Time)
  /-- time stamp of the restoring arrival -/
  | stamp (at_ : Time)
  deriving DecidableEq, Repr

structure Context where
  bay : Option Bay
  serial : Option Serial
  detail : Detail
  deriving DecidableEq, Repr

/-- Count (1..255) and context of a pending source (R155). -/
structure Occurrence where
  count : Nat
  context : Context
  deriving DecidableEq, Repr

/-- One source's record (R155): pending when `occurrence` is `some`. -/
structure NoticeRecord where
  occurrence : Option Occurrence
  announced : Bool
  deriving DecidableEq, Repr

inductive Group where
  | fault | process | info
  deriving DecidableEq, Repr

inductive OutClass where
  | reply | notice | report
  deriving DecidableEq, Repr

/-- The four notice settings (R160); bit i of `masked` masks source i. -/
structure NoticeSettings where
  masked : BitVec 14
  enable : Bool
  groups : List Group
  classes : List OutClass
  deriving DecidableEq, Repr

/-- The Notice Unit: one record per source, by source number. -/
structure Notices where
  records : List NoticeRecord
  settings : NoticeSettings
  deriving DecidableEq, Repr

/-- One reply (R163, R166): destination node, tag, kind, completion code and content. -/
structure Reply where
  dest : Nat
  tag : Nat
  kind : Nat
  code : Nat
  content : List Byte
  deriving DecidableEq, Repr

/-- The Outbound Arbiter: the two command slots (destination and command, R162) and the reply queue (R163). -/
structure Arbiter where
  driveSlot : Option (Nat × DriveCommand)
  valveSlot : Option (Nat × ValveCommand)
  replies : List Reply
  sent : Nat
  deriving DecidableEq, Repr

/-! ## Requests, station reset and start-up (spec/11_management_requests_reset_and_start_up.md) -/

/-- A request in the request queue (R165): its source node, the tag and kind bytes that arrived (`head`, at most three),
and its arguments, whole or assembled; no arguments for a request that R177 passes on to be refused BAD_REQUEST (a
payload shorter than 4 bytes, or a broken assembly). -/
structure Request where
  src : Nat
  head : List Byte
  args : Option (List Byte)
  deriving DecidableEq, Repr

/-- An open assembly (R177): source node, tag and kind bytes, part total, next part index, arguments so far, and the
time it was opened or last joined. -/
structure Assembly where
  src : Nat
  head : List Byte
  total : Nat
  next : Nat
  args : List Byte
  since : Time
  deriving DecidableEq, Repr

/-- A station reset in progress (R169, R170): whom to answer, and the two safe commands with whether each has been
reported transmitted. -/
structure ResetWait where
  src : Nat
  tag : Nat
  driveNumber : Nat
  valveNumber : Nat
  driveDone : Bool
  valveDone : Bool
  deriving DecidableEq, Repr

/-- The Request Unit (section 11.1).  The bound flag is `State.tables` being `some`. -/
structure RequestUnit where
  queue : List Request
  assembly : Option Assembly
  resetWait : Option ResetWait
  deriving DecidableEq, Repr

/-- The Configuration Loader's state and detail (R173 to R175). -/
inductive LoaderState where
  | none
  /-- LOADING, the image not yet read -/
  | reading
  /-- LOADING, replaying: the number of the next record (from 1), the records left, and the loader's own assembly -/
  | replaying (next : Nat) (records : List (List Byte)) (assembly : Option Assembly)
  | loaded (records : Nat)
  | failed (record : Nat)
  deriving DecidableEq, Repr

/-! ## The whole part -/

/-- The state of the HJM-620. -/
structure State where
  pins : Pins
  /-- the Time Base (R172) -/
  timeBase : Time
  ring : Ring
  /-- the stream table, 16 entries -/
  streams : List StreamEntry
  /-- the channel table, 24 channels -/
  channels : List Channel
  angle : Angle
  stand : Option Stand
  /-- the Table Memory's partition and tables; none while unbound -/
  tables : Option Tables
  /-- the Unit List, oldest first -/
  units : List UnitRecord
  runIn : RunIn
  engine : Engine
  leak : Leak
  reports : ReportQueue
  notices : Notices
  arbiter : Arbiter
  requests : RequestUnit
  loader : LoaderState
  /-- the MODEL's own: how many free values have been drawn (Sys2Proof/Config.lean) -/
  freeCount : Nat
  /-- the MODEL's own: the commands waiting, first in, first out -/
  pending : List Instr
  deriving DecidableEq, Repr

/-! ## One update per block -/

def State.setPins (s : State) (x : Pins) : State := { s with pins := x }
def State.setTimeBase (s : State) (x : Time) : State := { s with timeBase := x }
def State.setRing (s : State) (x : Ring) : State := { s with ring := x }
def State.setStreams (s : State) (x : List StreamEntry) : State := { s with streams := x }
def State.setChannels (s : State) (x : List Channel) : State := { s with channels := x }
def State.setAngle (s : State) (x : Angle) : State := { s with angle := x }
def State.setStand (s : State) (x : Option Stand) : State := { s with stand := x }
def State.setTables (s : State) (x : Option Tables) : State := { s with tables := x }
def State.setUnits (s : State) (x : List UnitRecord) : State := { s with units := x }
def State.setRunIn (s : State) (x : RunIn) : State := { s with runIn := x }
def State.setEngine (s : State) (x : Engine) : State := { s with engine := x }
def State.setLeak (s : State) (x : Leak) : State := { s with leak := x }
def State.setReports (s : State) (x : ReportQueue) : State := { s with reports := x }
def State.setNotices (s : State) (x : Notices) : State := { s with notices := x }
def State.setArbiter (s : State) (x : Arbiter) : State := { s with arbiter := x }
def State.setRequests (s : State) (x : RequestUnit) : State := { s with requests := x }
def State.setLoader (s : State) (x : LoaderState) : State := { s with loader := x }
def State.setFreeCount (s : State) (x : Nat) : State := { s with freeCount := x }
def State.setPending (s : State) (x : List Instr) : State := { s with pending := x }

/-! ## After reset -/

/-- The cleared runtime of a stream (R17, R18). -/
def StreamRun.cleared : StreamRun :=
  { state := .waiting, expected := none, lastArrival := none, last := none,
    accepted := 0, filled := 0, duplicate := 0, malformed := 0, gap := 0 }

/-- An unloaded channel, DISABLED with both flags clear (R26, R27). -/
def Channel.unloaded : Channel :=
  { config := none, acquire := false, diagnose := false, status := .disabled, lastRaw := none,
    lastValue := none, clipCount := 0, filledCount := 0, flatRun := 0 }

/-- The Angle Unit after any reset (R37). -/
def Angle.afterReset : Angle :=
  { state := .noReference, totalSlips := 0, standstill := false, history := [], historyStart := none }

/-- A source that is not pending and not announced (R155). -/
def NoticeRecord.quiet : NoticeRecord := { occurrence := none, announced := false }

/-- The notice settings after power-on or pin reset (R160). -/
def NoticeSettings.afterReset : NoticeSettings :=
  { masked := 0, enable := true, groups := [.fault, .process, .info], classes := [.reply, .notice, .report] }

/-- No check. -/
def Checks.empty : Checks := { runin := false, noise := false, leak := false }

/-- Zero statistics (R142). -/
def Stats.zero : Stats :=
  { tested := 0, accepted := 0, rejected := 0, incomplete := 0, frozen := false,
    runinRejects := 0, noiseRejects := 0, leakRejects := 0, held := false, holdChecks := Checks.empty }

/-- The HOLD accumulators, cleared (R86). -/
def HoldAcc.cleared : HoldAcc :=
  { torqueSum := 0, torqueCount := 0, maxTorque := none, maxOil := none, minSpeed := none, maxSpeed := none }

/-- The part held in reset: every block as its chapter gives it after a power-on or pin reset (R172), before RESET_END
has read the pins.  The node number, the port state and the guard state stand at a value until then
(notes/assumptions/2.md: DESIGN CHOICE, node number 0, BYPASS, ASSERTED). -/
def State.reset : State :=
  { pins := { straps := 0, loadStrap := false, resetHeld := true, guardLow := true }
    timeBase := 0
    ring := { node := 0, port := .bypass, buffer := [], line := none, stamp := none, everUp := false,
              bad := 0, stripped := 0, expired := 0, discarded := 0, forwarded := 0 }
    streams := List.replicate 16 { config := none, run := StreamRun.cleared }
    channels := List.replicate 24 Channel.unloaded
    angle := Angle.afterReset
    stand := none
    tables := none
    units := []
    runIn := { run := none, outcomeSegment := none, commandNumber := 0, lastCommand := none, refreshStart := none,
               guardAsserted := true }
    engine := { window := none, failSeen := false, noResultSeen := false, unavailableSeen := false }
    leak := { run := none, count := 0, commandNumber := 0, lastCommand := none, refreshStart := none, suppressed := false }
    reports := { reports := [], transmitted := 0, next := 0 }
    notices := { records := List.replicate 14 NoticeRecord.quiet, settings := NoticeSettings.afterReset }
    arbiter := { driveSlot := none, valveSlot := none, replies := [], sent := 0 }
    requests := { queue := [], assembly := none, resetWait := none }
    loader := .none
    freeCount := 0
    pending := [] }

end Sys2Proof.Machine
end

