-- ==== Sys2Proof/Machine/Frames.lean ====
section
/-! DEFINITION. The bytes of every frame the part receives or sends (spec/12_frame_formats.md; R4, R5, R8, R12, R178,
R179). -/

namespace Sys2Proof.Machine

/-! ## Frames on the line -/

/-- A frame by its fields (section 1.2). -/
structure Frame where
  dest : Nat
  src : Nat
  kind : Nat
  hop : Nat
  payload : List Byte
  deriving DecidableEq, Repr

/-- Kind codes of spec/12_frame_formats.md. -/
def kindSampleSet : Nat := 1
def kindCommand : Nat := 2
def kindRequest : Nat := 3
def kindReply : Nat := 4
def kindNotice : Nat := 5
def kindReport : Nat := 6

/-- Upper and lower half of a byte. -/
def highNibble (b : Byte) : Nat := b.toNat / 16
def lowNibble (b : Byte) : Nat := b.toNat % 16

/-- Two 4-bit fields in one byte. -/
def nibbles (high low : Nat) : Byte := byteOf (high % 16 * 16 + low % 16)

/-- Header and payload of a frame, before its CRC. -/
def Frame.body (f : Frame) : List Byte :=
  [nibbles f.dest f.src, nibbles f.kind f.hop, byteOf f.payload.length] ++ f.payload

/-- A whole frame: header, payload and the CRC over both (R4). -/
def Frame.encode (f : Frame) : List Byte := f.body ++ enc2 (crc16 f.body).toNat

/-- The check of R4: the frame, or none if it is bad.  A frame too short to hold a header and a CRC is bad: its length
field does not equal the number of payload bytes received (DEDUCED; notes/assumptions/7.md). -/
def checkFrame (bytes : List Byte) : Option Frame :=
  match bytes with
  | b0 :: b1 :: len :: rest =>
    if 2 ≤ rest.length then
      let payload := rest.take (rest.length - 2)
      let crc := decNat (rest.drop (rest.length - 2))
      if crc = (crc16 (b0 :: b1 :: len :: payload)).toNat ∧ len.toNat ≤ 120 ∧ len.toNat = payload.length then
        some { dest := highNibble b0, src := lowNibble b0, kind := highNibble b1, hop := lowNibble b1,
               payload := payload }
      else none
    else none
  | _ => none

/-- A good frame as it is forwarded: hop limit reduced by 1 and the CRC computed anew (R8). -/
def Frame.forwarded (f : Frame) : List Byte := Frame.encode { f with hop := f.hop - 1 }

/-- The largest legal frame: header, 120 payload bytes and CRC (spec/12_frame_formats.md). -/
def largestFrame : Nat := 125

/-- A frame of the part's own: the part's node number as source and hop limit 15 (R12). -/
def ownFrame (node dest kind : Nat) (payload : List Byte) : List Byte :=
  Frame.encode { dest := dest, src := node, kind := kind, hop := 15, payload := payload }

/-! ## Codes -/

/-- A bay's code: 1 for A, 2 for B, 0 where the field names no bay (R176). -/
def bayCode : Option Bay → Nat
  | none => 0
  | some .a => 1
  | some .b => 2

/-- Bits 0, 1, 2 for RUNIN, NOISE, LEAK. -/
def checksBits (c : Checks) : Nat :=
  (if c.runin then 1 else 0) + (if c.noise then 2 else 0) + (if c.leak then 4 else 0)

/-- Result codes of R176: 0 NOT_RUN, 1 RUNNING, 2 PASS, 3 FAIL, 4 ABORTED, 5 NO_RESULT; causes from 1 in the order of
section 5.2, 0 for none. -/
def RuninOutcome.codes : RuninOutcome → Nat × Nat
  | .pass => (2, 0)
  | .fail .torque => (3, 1)
  | .fail .oilTemp => (3, 2)
  | .fail .speed => (3, 3)
  | .aborted .request => (4, 1)
  | .aborted .guard => (4, 2)
  | .aborted .stream => (4, 3)
  | .aborted .channel => (4, 4)
  | .aborted .angle => (4, 5)

def RuninResult.codes : RuninResult → Nat × Nat
  | .notRun => (0, 0)
  | .running => (1, 0)
  | .done o => o.codes

def LeakOutcome.codes : LeakOutcome → Nat × Nat
  | .pass => (2, 0)
  | .fail .gross => (3, 1)
  | .fail .rate => (3, 2)
  | .aborted .request => (4, 1)
  | .aborted .pressureHigh => (4, 2)
  | .aborted .stream => (4, 3)
  | .aborted .channel => (4, 4)

def LeakStatus.codes : LeakStatus → Nat × Nat
  | .notRun => (0, 0)
  | .running => (1, 0)
  | .done o => o.codes

def NoiseResult.code : NoiseResult → Nat
  | .notRun => 0
  | .pass => 2
  | .fail => 3
  | .noResult => 5

def Verdict.code : Verdict → Nat
  | .accept => 0
  | .reject => 1
  | .incomplete => 2
  | .withdrawn => 3

/-- The number of a notice source (section 10.1). -/
def Source.number : Source → Nat
  | .stopTimeout => 0 | .ventTimeout => 1 | .channelFault => 2 | .angleFault => 3 | .streamStale => 4
  | .requestOverrun => 5 | .configLoadFailed => 6 | .runinEnd => 7 | .leakEnd => 8 | .unitClosed => 9
  | .variantHeld => 10 | .guard => 11 | .orderSetSwapped => 12 | .ringRestored => 13

/-- The sources in the order of their numbers. -/
def Source.all : List Source :=
  [.stopTimeout, .ventTimeout, .channelFault, .angleFault, .streamStale, .requestOverrun, .configLoadFailed,
   .runinEnd, .leakEnd, .unitClosed, .variantHeld, .guard, .orderSetSwapped, .ringRestored]

/-- Latched (L) or self-clearing (S), by the table of section 10.1. -/
def Source.latched : Source → Bool
  | .stopTimeout | .ventTimeout | .channelFault | .angleFault | .streamStale | .requestOverrun
  | .configLoadFailed | .variantHeld => true
  | .runinEnd | .leakEnd | .unitClosed | .guard | .orderSetSwapped | .ringRestored => false

/-- The group of a source, by the table of section 10.1. -/
def Source.group : Source → Group
  | .stopTimeout | .ventTimeout | .channelFault | .angleFault | .streamStale | .requestOverrun
  | .configLoadFailed => .fault
  | .runinEnd | .leakEnd | .unitClosed | .variantHeld | .guard => .process
  | .orderSetSwapped | .ringRestored => .info

def Group.code : Group → Nat
  | .fault => 0
  | .process => 1
  | .info => 2

def OutClass.code : OutClass → Nat
  | .reply => 0
  | .notice => 1
  | .report => 2

/-! ## Commands (section 12.1) -/

/-- A drive command's 9 payload bytes. -/
def DriveCommand.payload (c : DriveCommand) : List Byte :=
  enc1 1 ++ enc1 c.number ++ encBool c.run ++ encS2 c.speed ++ enc2 c.ramp ++ encS2 c.torque

def ValveKind.code : ValveKind → Nat
  | .fill => 0
  | .isolate => 1
  | .vent => 2

/-- A valve command's 3 payload bytes. -/
def ValveCommand.payload (c : ValveCommand) : List Byte := enc1 2 ++ enc1 c.number ++ enc1 c.kind.code

/-! ## Replies (section 12.2, R178) -/

/-- ceil(a / b) for a positive b. -/
def ceilDiv (a b : Nat) : Nat := (a + (b - 1)) / b

/-- The frame total of a reply: frames of 115 content bytes, at least one (R178). -/
def Reply.frames (r : Reply) : Nat := max 1 (ceilDiv r.content.length 115)

/-- The payload of the reply's frame of the given index (R178). -/
def Reply.payload (r : Reply) (index : Nat) : List Byte :=
  enc2 r.tag ++ enc1 r.kind ++ enc1 r.code ++ [nibbles index r.frames] ++ (r.content.drop (115 * index)).take 115

/-! ## Notices (section 12.3) -/

/-- `bytes` filled up with zeros to `n` bytes. -/
def padTo (n : Nat) (bytes : List Byte) : List Byte := bytes ++ List.replicate (n - bytes.length) 0

/-- The six detail bytes; unused ones are 0. -/
def Detail.bytes (d : Detail) : List Byte :=
  padTo 6 (match d with
    | .number n => enc1 n
    | .overrun tag source => enc2 tag ++ enc1 source
    | .record n => enc2 n
    | .runin o => enc1 o.codes.1 ++ enc1 o.codes.2
    | .leak o => enc1 o.codes.1 ++ enc1 o.codes.2
    | .verdict v => enc1 v.code
    | .held id slot checks => enc2 id ++ enc1 slot ++ enc1 (checksBits checks)
    | .edge asserted at_ => encBool asserted ++ encWord at_
    | .stamp at_ => encWord at_)

/-- A serial's 16 bytes; all spaces when none. -/
def serialBytes : Option Serial → List Byte
  | some s => s
  | none => List.replicate 16 0x20

/-- Bay, serial and detail of a context: notice bytes 3 to 25 (section 12.3).  READ_STATUS carries a context in the same
bytes: no serial as 16 spaces, the detail padded to 6 bytes, no presence bytes inside (DESIGN CHOICE,
notes/assumptions/33.md). -/
def Context.bytes (c : Context) : List Byte := enc1 (bayCode c.bay) ++ serialBytes c.serial ++ c.detail.bytes

/-- The 30 payload bytes of a notice (R158, section 12.3). -/
def noticePayload (src : Source) (o : Occurrence) (now : Time) : List Byte :=
  enc1 src.number ++ enc1 ((if src.latched then 128 else 0) + src.group.code) ++ enc1 o.count ++ o.context.bytes ++
    encWord now

/-! ## Report segments (section 12.4, R151, R152, R179) -/

/-- A signed value in a 2-byte field, clamped to -32767..32767 (R179). -/
def encS2Clamped (z : Int) : List Byte := encS2 (clamp (-32767) 32767 z)

/-- An absent signed 2-byte field of a SUMMARY or FINDING is sent as -32768 (R179). -/
def encS2Absent : Option Int → List Byte
  | none => encS2 (-32768)
  | some z => encS2Clamped z

/-- An unsigned 2-byte field; a number too large for it is sent as a free value (notes/assumptions/13.md). -/
def enc2Wide (n : Nat) : List Byte := enc2 (if n ≤ 65535 then n else Config.overwide n)

/-- A signed 4-byte field; a number outside its range is sent as a free value (notes/assumptions/13.md). -/
def encS4Wide (z : Int) : List Byte :=
  if -2147483648 ≤ z ∧ z ≤ 2147483647 then encS4 z else enc4 (Config.overwide z)

/-- The 12 bytes of a segment summary. -/
def Summary.bytes (m : Summary) : List Byte :=
  enc2 (m.segment * 2048 + (if m.unavailable then 1024 else 0) + min 1023 m.valid) ++
    encS2Absent m.meanTorque ++
    (match m.maxTorque with | none => enc2 65535 | some t => enc2Wide t) ++
    encS2Absent m.maxOil ++ encS2Absent m.minSpeed ++ encS2Absent m.maxSpeed

def FindingVerdict.code : FindingVerdict → Nat
  | .pass => 0
  | .fail => 1
  | .fewBlocks => 2
  | .unavailable => 3

/-- The 15 bytes of a finding; without a worst block, A, L and v are sent as 0. -/
def Finding.bytes (f : Finding) : List Byte :=
  enc2 (f.segment * 2048 + f.order * 128 + f.channel * 4 + f.verdict.code) ++
    encBool f.worst.isSome ++ enc2 f.valid ++ enc2 f.fail ++ enc2 f.invalid ++
    (match f.worst with
     | none => List.replicate 6 0
     | some w => enc2 w.a ++ enc2 w.l ++ encS2Clamped w.v)

/-- Six leak-result fields and its flags; 0 where there is no result. -/
def leakResultBytes : Option LeakResult → List Byte
  | none => List.replicate 23 0
  | some r => encS4 r.p1 ++ encS4 r.p2 ++ encS4Wide r.dMeas ++ encS4Wide r.dTherm ++ encS4Wide r.dLeak ++ enc2 r.q ++
      enc1 ((if r.uncompensated then 1 else 0) + (if r.gain then 2 else 0))

/-- A bit of a presence byte. -/
def bitIf (b : Bool) (n : Nat) : Nat := if b then 2 ^ n else 0

/-- The 53 content bytes of a HEADER.  The bit of the stop-timeout flag is 0 while the flag is absent (DESIGN CHOICE,
notes/assumptions/41.md: section 12.4 gives it no presence bit). -/
def Report.header (r : Report) : List Byte :=
  let u := r.unit
  enc2 u.variantId ++ enc1 (checksBits r.required + 16 * checksBits r.basis) ++ enc1 r.verdict.code ++
    enc1 (u.runin.codes.1 + 8 * u.runin.codes.2 + bitIf (u.stopTimeout.getD false) 7) ++ encNone u.endSegment ++
    enc1 u.noise.code ++ enc1 (u.leak.codes.1 + 8 * u.leak.codes.2) ++ enc1 u.retests ++
    encWord u.admittedAt ++ encWord (u.tEndAt.getD 0) ++ encS2Clamped (u.tEnd.getD 0) ++
    encWord (u.guardTime.getD 0) ++ encS2Clamped ((u.maxTorque.getD 0 : Nat) : Int) ++ encS2Clamped (u.maxOil.getD 0) ++
    enc1 (bitIf u.tEndAt.isSome 0 + bitIf u.tEnd.isSome 1 + bitIf u.guardTime.isSome 2 + bitIf u.maxTorque.isSome 3 +
      bitIf u.maxOil.isSome 4 + bitIf u.leakResult.isSome 5 + bitIf u.truncated 7) ++
    leakResultBytes u.leakResult ++ enc1 u.summaries.length ++ enc1 u.findings.length

/-- SUMMARY segments of a report: ceil(summaries / 8) (R151). -/
def Report.summarySegments (r : Report) : Nat := ceilDiv r.unit.summaries.length 8

/-- FINDING segments of a report: ceil(findings / 6) (R151). -/
def Report.findingSegments (r : Report) : Nat := ceilDiv r.unit.findings.length 6

/-- The segment total (R151). -/
def Report.segments (r : Report) : Nat := 1 + r.summarySegments + r.findingSegments

/-- The payload of the report's segment of the given index: the 20 common bytes, then the content (R151, R152). -/
def Report.payload (r : Report) (index : Nat) : List Byte :=
  let common (type : Nat) : List Byte :=
    enc2 r.number ++ r.unit.serial ++ [nibbles index r.segments] ++
      enc1 ((if index + 1 = r.segments then 128 else 0) + type)
  if index = 0 then common 0 ++ r.header
  else if index ≤ r.summarySegments then
    common 1 ++ (((r.unit.summaries.drop (8 * (index - 1))).take 8).flatMap Summary.bytes)
  else
    common 2 ++ (((r.unit.findings.drop (6 * (index - 1 - r.summarySegments))).take 6).flatMap Finding.bytes)

end Sys2Proof.Machine
end

