-- ==== Sys2Proof/Machine/Flags.lean ====
section
/-! DEFINITION. The Notice Unit's flags: raising, clearing, eligibility, rank and taking (R155 to R160). -/

namespace Sys2Proof.Machine

/-- The record of a source. -/
def Notices.record (u : Notices) (src : Source) : NoticeRecord := u.records.getD src.number NoticeRecord.quiet

/-- The unit with one source's record changed. -/
def Notices.setRecord (u : Notices) (src : Source) (r : NoticeRecord) : Notices :=
  { u with records := modifyAt (fun _ => r) u.records src.number }

/-- What a raise does to a source's record (R156): pending with count 1 and this context, or one more occurrence, the
stored context kept. -/
def NoticeRecord.raised (r : NoticeRecord) (c : Context) : NoticeRecord :=
  match r.occurrence with
  | none => { r with occurrence := some { count := 1, context := c } }
  | some o => { r with occurrence := some { o with count := satSucc 255 o.count } }

/-- A block raises a source (R156). -/
def raise (s : State) (src : Source) (bay : Option Bay) (serial : Option Serial) (detail : Detail) : State :=
  s.setNotices (s.notices.setRecord src
    ((s.notices.record src).raised { bay := bay, serial := serial, detail := detail }))

/-- A source is eligible: pending, not announced, not masked, and the global enable set (R157). -/
def Notices.eligible (u : Notices) (src : Source) : Bool :=
  (u.record src).occurrence.isSome && !(u.record src).announced && !u.settings.masked.getLsbD src.number &&
    u.settings.enable

/-- The sources as they rank: by group in the programmed order, and within a group by number (R157). -/
def Notices.ranked (u : Notices) : List Source :=
  u.settings.groups.flatMap (fun g => Source.all.filter (fun src => src.group = g))

/-- The notice the unit offers: the eligible source that ranks first (R157). -/
def Notices.offer (u : Notices) : Option Source := u.ranked.find? u.eligible

/-- What taking a notice does to its source's record (R158): a self-clearing source is returned to not pending, a latched
one is announced. -/
def NoticeRecord.taken (r : NoticeRecord) (latched : Bool) : NoticeRecord :=
  if latched then { r with announced := true } else { r with occurrence := none }

/-- The notice of a source is taken (R158). -/
def Notices.take (u : Notices) (src : Source) : Notices := u.setRecord src ((u.record src).taken src.latched)

/-- The named sources returned to not pending and not announced (R159). -/
def clearNamed (named : BitVec 16) : Nat → List NoticeRecord → List NoticeRecord
  | _, [] => []
  | i, r :: rs => (if named.getLsbD i then NoticeRecord.quiet else r) :: clearNamed named (i + 1) rs

/-- Every source not pending and not announced, the settings kept (R155, R170). -/
def Notices.cleared (u : Notices) : Notices := { u with records := u.records.map (fun _ => NoticeRecord.quiet) }

end Sys2Proof.Machine
end

