-- ==== Sys2Proof/Machine/Operands.lean ====
section
/-! DEFINITION. A request's arguments, read from its bytes: the form check of R167 and, for every field, whether it lies
inside its stated values (R16, R25, R54, R56, R58, R60, R160), by the encoding of R176.

A record (stream entry, channel configuration, stand record, ...) is read as `none` when a field lies outside the values
of its table; the owning block answers BAD_VALUE for it in the place its own list of reasons gives. -/

namespace Sys2Proof.Machine

/-- Completion codes, in the order of section 11.2, which is the order of their numbers (section 12.2). -/
inductive Code where
  | ok | badRequest | badValue | notBound | alreadyBound | noSpace | inUse | notFound | bayOccupied | bayEmpty
  | lineFull | noVariant | variantHeld | duplicateSerial | active | notActive | wrongState | notReady | guardOpen
  | reportQueueFull
  deriving DecidableEq, Repr

/-- A completion code's number (section 12.2). -/
def Code.number : Code → Nat
  | .ok => 0 | .badRequest => 1 | .badValue => 2 | .notBound => 3 | .alreadyBound => 4 | .noSpace => 5 | .inUse => 6
  | .notFound => 7 | .bayOccupied => 8 | .bayEmpty => 9 | .lineFull => 10 | .noVariant => 11 | .variantHeld => 12
  | .duplicateSerial => 13 | .active => 14 | .notActive => 15 | .wrongState => 16 | .notReady => 17
  | .guardOpen => 18 | .reportQueueFull => 19

/-- The table kinds of READ_TABLE, in the order of their codes (R66). -/
inductive TableKind where
  | partition | stand | variant | profile | orderSetActive | orderSetShadow
  deriving DecidableEq, Repr

/-- A well-formed request by its kind and arguments. -/
inductive Req where
  | bind (sizes : Sizes)
  | reset
  | readStatus
  | setNotice (settings : Option NoticeSettings)
  | clearNotice (sources : BitVec 16)
  | loadStream (entry : Nat) (config : Option StreamConfig)
  | loadChannel (channel : Nat) (config : Option ChannelConfig)
  | channelEnable (channel : Nat) (acquire diagnose : Option Bool)
  | clearChannel (channel : Nat)
  | readChannel (selector number : Nat)
  | readAngle
  | clearAngle
  | loadStand (record : Option Stand)
  | loadVariant (slot : Nat) (record : Option Variant)
  | loadProfile (profile : Nat) (segments : Option (List Segment))
  | loadOrderSet (slot : Nat) (set : Option OrderSet)
  | swapOrderSet (slot : Nat)
  /-- the table kind (none: unknown) and the index (0 where the kind takes none) -/
  | readTable (kind : Option TableKind) (index : Nat)
  | admitUnit (serial : Serial) (variant : Nat)
  | advance (bay : Bay)
  | release
  | withdraw (serial : Serial)
  | readUnit (selector ordinal : Nat) (serial : Serial)
  | startSpin
  | abortSpin
  | clearFault (bay : Bay)
  | startLeak
  | abortLeak
  | readStats (slot : Nat)
  | clearStats (slot : Nat)
  | releaseVariant (slot : Nat)
  deriving DecidableEq, Repr

/-! ## Named values -/

/-- Yes and no are coded 1 and 0; any other byte lies outside the field's values. -/
def boolOf : Nat → Option Bool
  | 0 => some false
  | 1 => some true
  | _ => none

/-- A bay: 1 for A and 2 for B (R176). -/
def bayOf : Nat → Option Bay
  | 1 => some .a
  | 2 => some .b
  | _ => none

def roleOf : Nat → Option Role
  | 0 => some .vibration
  | 1 => some .sound
  | 2 => some .torque
  | 3 => some .oilTemp
  | 4 => some .pressure
  | 5 => some .ambientTemp
  | _ => none

def dispositionOf : Nat → Option Disposition
  | 0 => some .forward
  | 1 => some .absorb
  | _ => none

def angleModeOf : Nat → Option AngleMode
  | 0 => some .index
  | 1 => some .wrap
  | _ => none

def orderBaseOf : Nat → Option OrderBase
  | 0 => some .shaft
  | 1 => some .mesh
  | 2 => some .wheel
  | 3 => some .direct
  | _ => none

def groupOf : Nat → Option Group
  | 0 => some .fault
  | 1 => some .process
  | 2 => some .info
  | _ => none

def outClassOf : Nat → Option OutClass
  | 0 => some .reply
  | 1 => some .notice
  | 2 => some .report
  | _ => none

def tableKindOf : Nat → Option TableKind
  | 0 => some .partition
  | 1 => some .stand
  | 2 => some .variant
  | 3 => some .profile
  | 4 => some .orderSetActive
  | 5 => some .orderSetShadow
  | _ => none

/-- A set of checks; a bit beyond the three names no check. -/
def checksOf (n : Nat) : Option Checks :=
  if n < 8 then some { runin := n.testBit 0, noise := n.testBit 1, leak := n.testBit 2 } else none

/-- "None" is coded 0xFF in a 1-byte field (R176). -/
def noneOr (n : Nat) : Option Nat := if n = 255 then none else some n

/-! ## Records -/

/-- A stream entry's fields: entry index, enable, source node, stream number, value count, position present, index
present, fs, stale timeout, disposition (section 2.1). -/
def streamWidths : List Nat := [1, 1, 1, 1, 1, 1, 1, 2, 1, 1]

/-- The stream entry, if every field lies inside its values and the binding list has n entries (R16, first reason). -/
def streamConfigOf (fields : List Nat) (binding : List (List Nat)) : Option StreamConfig :=
  match fields with
  | [en, src, num, n, pos, idx, fs, stale, disp] =>
    match boolOf en, boolOf pos, boolOf idx, dispositionOf disp with
    | some en, some pos, some idx, some disp =>
      let list := binding.map (fun row => noneOr (row.getD 0 255))
      if 1 ≤ src ∧ src ≤ 15 ∧ num ≤ 7 ∧ 1 ≤ n ∧ n ≤ 8 ∧ [3200, 6400, 12800, 25600, 51200].contains fs ∧ 1 ≤ stale ∧
          list.length = n ∧ (list.all fun b => b.all (fun c => decide (c ≤ 23))) then
        some { enable := en, source := src, number := num, count := n, hasPosition := pos, hasIndex := idx, fs := fs,
               stale := stale, disposition := disp, binding := list }
      else none
    | _, _, _, _ => none
  | _ => none

/-- A channel configuration's fields: channel, role, bay, gain, offset, clip level, flat window, range minimum, range
maximum (section 2.5). -/
def channelWidths : List Nat := [1, 1, 1, 4, 4, 2, 2, 4, 4]

/-- The channel configuration, if every field lies inside its values (R25).  AMBIENT_TEMP does not use its bay, so there
the byte may also name no bay. -/
def channelConfigOf (fields : List Nat) : Option ChannelConfig :=
  match fields with
  | [role, bay, gain, offset, clip, flat, lo, hi] =>
    match roleOf role with
    | none => none
    | some r =>
      if ((bayOf bay).isSome ∨ (r = .ambientTemp ∧ bay = 0)) ∧ 1 ≤ clip ∧ clip ≤ 32767 ∧
          (flat = 0 ∨ (16 ≤ flat ∧ flat ≤ 4096)) ∧ signed32 lo ≤ signed32 hi then
        some { role := r, bay := bayOf bay, gain := signed32 gain, offset := signed32 offset, clip := clip,
               flat := flat, rangeMin := signed32 lo, rangeMax := signed32 hi }
      else none
  | _ => none

/-- The stand record's fields in the order of section 4.2. -/
def standWidths : List Nat := [1, 4, 1, 1, 2, 1, 1, 1, 2, 2, 2, 2, 2, 4]

/-- The stand record, if every field lies inside its values (R54); the part's own node number is checked by the load. -/
def standOf (fields : List Nat) : Option Stand :=
  match fields with
  | [src, cpr, mode, tol, win, drive, valve, refresh, ramp, stop, threshold, vent, ambient, patm] =>
    match angleModeOf mode with
    | none => none
    | some mode =>
      if src ≤ 15 ∧ 256 ≤ cpr ∧ cpr ≤ 65536 ∧ win ≤ 1023 ∧ 1 ≤ drive ∧ drive ≤ 15 ∧ 1 ≤ valve ∧ valve ≤ 15 ∧
          10 ≤ refresh ∧ refresh ≤ 100 ∧ ramp ≤ 30000 ∧ 1000 ≤ stop ∧ stop ≤ 60000 ∧ threshold ≤ 20000 ∧
          1000 ≤ vent ∧ vent ≤ 60000 ∧ -4000 ≤ signed16 ambient ∧ signed16 ambient ≤ 6000 ∧
          80000 ≤ patm ∧ patm ≤ 110000 then
        some { angleSource := src, cpr := cpr, mode := mode, tolerance := tol, standstillWindow := win,
               driveNode := drive, valveNode := valve, refresh := refresh, stopRamp := ramp, stopTimeout := stop,
               ventThreshold := threshold, ventTimeout := vent, defaultAmbient := signed16 ambient, patm := patm }
      else none
  | _ => none

/-- Slot number and the variant record's fields in the order of section 4.3. -/
def variantWidths : List Nat := [1, 2, 1, 1, 1, 1, 2, 1, 2, 4, 2, 4, 4, 4, 2, 4, 2, 4, 1, 1]

/-- The variant record, if every field that does not depend on the partition lies inside its values (R56). -/
def variantOf (fields : List Nat) : Option Variant :=
  match fields with
  | [id, zp, zr, profile, required, oil, tol, persist, target, band, fill, settle, measure, window, volume, leak, span,
      retest, hold] =>
    match checksOf required with
    | none => none
    | some required =>
      if 1 ≤ id ∧ 5 ≤ zp ∧ zp ≤ 60 ∧ 20 ≤ zr ∧ zr ≤ 99 ∧ zp < zr ∧
          -4000 ≤ signed16 oil ∧ signed16 oil ≤ 20000 ∧ 1 ≤ tol ∧ tol ≤ 200 ∧ 50 ≤ persist ∧ persist ≤ 5000 ∧
          5000 ≤ target ∧ target ≤ 150000 ∧ 100 ≤ band ∧ band ≤ 10000 ∧ 2 * band < target ∧
          1000 ≤ fill ∧ fill ≤ 600000 ∧ settle ≤ 600000 ∧ 1000 ≤ measure ∧ measure ≤ 120000 ∧
          1 ≤ window ∧ window ≤ 256 ∧ 100 ≤ volume ∧ volume ≤ 100000 ∧ 60000 ≤ span ∧ span ≤ 14400000 ∧
          retest ≤ 2 ∧ hold ≤ 15 then
        some { id := id, pinionTeeth := zp, ringTeeth := zr, profile := profile, required := required,
               oilLimit := signed16 oil, speedTolerance := tol, speedPersist := persist, targetPressure := target,
               fillBand := band, fillTimeout := fill, settleTime := settle, measureTime := measure, window := window,
               volume := volume, leakLimit := leak, coolingSpan := span, retestLimit := retest, holdThreshold := hold }
      else none
  | _ => none

/-- A segment's fields in the order of section 4.4. -/
def segmentWidths : List Nat := [2, 2, 2, 4, 2, 2, 1]

/-- The segment, if every field that does not depend on the partition lies inside its values (R58). -/
def segmentOf (fields : List Nat) : Option Segment :=
  match fields with
  | [target, ramp, settle, hold, load, limit, slot] =>
    if -12000 ≤ signed16 target ∧ signed16 target ≤ 12000 ∧ ramp ≤ 60000 ∧ settle ≤ 10000 ∧
        100 ≤ hold ∧ hold ≤ 600000 ∧ -5000 ≤ signed16 load ∧ signed16 load ≤ 5000 ∧ 1 ≤ limit ∧ limit ≤ 10000 then
      some { target := signed16 target, ramp := ramp, settle := settle, hold := hold, load := signed16 load,
             torqueLimit := limit, slot := noneOr slot }
    else none
  | _ => none

/-- Every element read, or none if one is not. -/
def allOf {α β : Type} (f : α → Option β) : List α → Option (List β)
  | [] => some []
  | x :: xs =>
    match f x, allOf f xs with
    | some y, some ys => some (y :: ys)
    | _, _ => none

/-- A curve point: a speed 0..12000 and a limit 0..65535 (section 4.5). -/
def pointOf (row : List Nat) : Option CurvePoint :=
  match row with
  | [speed, limit] => if speed ≤ 12000 then some { speed := speed, limit := limit } else none
  | _ => none

/-- Speeds strictly increase from each point to the next (R60). -/
def increasing : List CurvePoint → Bool
  | [] => true
  | [_] => true
  | p :: q :: rest => decide (p.speed < q.speed) && increasing (q :: rest)

/-- An order entry, if its fields lie inside their values (R60). -/
def orderEntryOf (fields : List Nat) (points : List (List Nat)) : Option OrderEntry :=
  match fields with
  | [base, h, direct] =>
    match orderBaseOf base, allOf pointOf points with
    | some base, some curve =>
      if 1 ≤ h ∧ h ≤ 8 ∧ (base = .direct → 1 ≤ direct ∧ direct ≤ 31457280) ∧ 2 ≤ curve.length ∧ curve.length ≤ 8 ∧
          increasing curve then
        some { base := base, harmonic := h, direct := direct, curve := curve }
      else none
    | _, _ => none
  | _ => none

/-- `count` order entries, each base, h, direct value and a counted limit curve, up to the end of `bytes`. -/
def takeOrders : Nat → List Byte → Option (List (List Nat × List (List Nat)))
  | 0, bytes => if bytes = [] then some [] else none
  | count + 1, bytes =>
    match takeFields [1, 1, 4] bytes with
    | none => none
    | some (fields, rest) =>
      match takeCounted [2, 2] rest with
      | none => none
      | some (points, rest') =>
        match takeOrders count rest' with
        | none => none
        | some more => some ((fields, points) :: more)

/-- The order set, if every field that does not depend on the partition lies inside its values (R60). -/
def orderSetOf (fields : List Nat) (channels : List (List Nat)) (orders : List (List Nat × List (List Nat))) :
    Option OrderSet :=
  match fields, allOf (fun o => orderEntryOf o.1 o.2) orders with
  | [b, m, k, steady], some entries =>
    let list := channels.map (fun row => row.getD 0 255)
    if 1 ≤ b ∧ b ≤ 64 ∧ 1 ≤ m ∧ m ≤ 15 ∧ 1 ≤ k ∧ k ≤ 15 ∧ 1 ≤ steady ∧ steady ≤ 500 ∧
        1 ≤ list.length ∧ list.length ≤ 4 ∧ (list.all fun c => decide (c ≤ 23)) ∧ allDistinct list ∧
        1 ≤ entries.length then
      some { revs := b, minValid := m, failCount := k, steadiness := steady, channels := list, orders := entries }
    else none
  | _, _ => none

/-- The notice settings of SET_NOTICE, if they lie inside their values: no masked number above 13, each order naming
every group or class once (R160). -/
def settingsOf (fields : List Nat) : Option NoticeSettings :=
  match fields with
  | [masked, enable, g0, g1, g2, c0, c1, c2] =>
    match boolOf enable, allOf groupOf [g0, g1, g2], allOf outClassOf [c0, c1, c2] with
    | some enable, some groups, some classes =>
      if masked < 16384 ∧ allDistinct groups ∧ allDistinct classes then
        some { masked := BitVec.ofNat 14 masked, enable := enable, groups := groups, classes := classes }
      else none
    | _, _, _ => none
  | _ => none

/-! ## The form check (R167) -/

/-- One 1-byte argument. -/
def oneByte (f : Nat → Req) (args : List Byte) : Except Code Req :=
  match args with
  | [b] => .ok (f b.toNat)
  | _ => .error .badRequest

/-- No argument. -/
def noArgument (r : Req) (args : List Byte) : Except Code Req :=
  match args with
  | [] => .ok r
  | _ => .error .badRequest

/-- Fields of fixed widths that take up all the arguments. -/
def fixedFields (widths : List Nat) (f : List Nat → Req) (args : List Byte) : Except Code Req :=
  match fieldsOf widths args with
  | some ns => .ok (f ns)
  | none => .error .badRequest

def readLoadStream (args : List Byte) : Except Code Req :=
  match takeFields streamWidths args with
  | none => .error .badRequest
  | some (fields, rest) =>
    match takeCounted [1] rest with
    | some (binding, []) => .ok (.loadStream (fields.headD 0) (streamConfigOf fields.tail binding))
    | _ => .error .badRequest

def readLoadProfile (args : List Byte) : Except Code Req :=
  match args with
  | p :: rest =>
    match takeCounted segmentWidths rest with
    | some (rows, []) => .ok (.loadProfile p.toNat (allOf segmentOf rows))
    | _ => .error .badRequest
  | _ => .error .badRequest

def readLoadOrderSet (args : List Byte) : Except Code Req :=
  match takeFields [1, 1, 1, 1, 2] args with
  | none => .error .badRequest
  | some (fields, rest) =>
    match takeCounted [1] rest with
    | some (channels, n :: rest') =>
      match takeOrders n.toNat rest' with
      | some orders => .ok (.loadOrderSet (fields.headD 0) (orderSetOf fields.tail channels orders))
      | none => .error .badRequest
    | _ => .error .badRequest

/-- READ_TABLE: PARTITION and STAND take no index, the other kinds one; an unknown kind is passed on with either length
and refused BAD_VALUE by its owner (R66). -/
def readReadTable (args : List Byte) : Except Code Req :=
  match args with
  | [k] =>
    match tableKindOf k.toNat with
    | some .partition => .ok (.readTable (some .partition) 0)
    | some .stand => .ok (.readTable (some .stand) 0)
    | some _ => .error .badRequest
    | none => .ok (.readTable none 0)
  | [k, i] =>
    match tableKindOf k.toNat with
    | some .partition | some .stand => .error .badRequest
    | some t => .ok (.readTable (some t) i.toNat)
    | none => .ok (.readTable none i.toNat)
  | _ => .error .badRequest

/-- A bay argument: any byte other than A's and B's is refused BAD_VALUE (R167, R176; spec/05_units_on_the_line.md,
5.4). -/
def bayArgument (f : Bay → Req) (args : List Byte) : Except Code Req :=
  match args with
  | [b] =>
    match bayOf b.toNat with
    | some bay => .ok (f bay)
    | none => .error .badValue
  | _ => .error .badRequest

/-- The arguments of a request of the given kind, by the kind codes of section 12.2; the refusal of R167 otherwise. -/
def readArguments (kind : Nat) (args : List Byte) : Except Code Req :=
  match kind with
  | 0x01 => fixedFields [1, 1, 1, 1, 1] (fun ns => .bind { v := ns.getD 0 0, p := ns.getD 1 0, s := ns.getD 2 0,
                                                            o := ns.getD 3 0, k := ns.getD 4 0 }) args
  | 0x02 => noArgument .reset args
  | 0x03 => noArgument .readStatus args
  | 0x08 => fixedFields [2, 1, 1, 1, 1, 1, 1, 1] (fun ns => .setNotice (settingsOf ns)) args
  | 0x09 => fixedFields [2] (fun ns => .clearNotice (BitVec.ofNat 16 (ns.getD 0 0))) args
  | 0x10 => readLoadStream args
  | 0x11 => fixedFields channelWidths (fun ns => .loadChannel (ns.headD 0) (channelConfigOf ns.tail)) args
  | 0x12 => fixedFields [1, 1, 1] (fun ns => .channelEnable (ns.getD 0 0) (boolOf (ns.getD 1 0))
                                                             (boolOf (ns.getD 2 0))) args
  | 0x13 => oneByte .clearChannel args
  | 0x14 => fixedFields [1, 1] (fun ns => .readChannel (ns.getD 0 0) (ns.getD 1 0)) args
  | 0x18 => noArgument .readAngle args
  | 0x19 => noArgument .clearAngle args
  | 0x20 => fixedFields standWidths (fun ns => .loadStand (standOf ns)) args
  | 0x21 => fixedFields variantWidths (fun ns => .loadVariant (ns.headD 0) (variantOf ns.tail)) args
  | 0x22 => readLoadProfile args
  | 0x23 => readLoadOrderSet args
  | 0x24 => oneByte .swapOrderSet args
  | 0x25 => readReadTable args
  | 0x30 => if args.length = 18 then .ok (.admitUnit (args.take 16) (decNat (args.drop 16))) else .error .badRequest
  | 0x31 => bayArgument .advance args
  | 0x32 => noArgument .release args
  | 0x33 => if args.length = 16 then .ok (.withdraw args) else .error .badRequest
  | 0x34 => if args.length = 18 then .ok (.readUnit (decNat (args.take 1)) (decNat ((args.drop 1).take 1)) (args.drop 2))
            else .error .badRequest
  | 0x40 => noArgument .startSpin args
  | 0x41 => noArgument .abortSpin args
  | 0x42 => bayArgument .clearFault args
  | 0x48 => noArgument .startLeak args
  | 0x49 => noArgument .abortLeak args
  | 0x50 => oneByte .readStats args
  | 0x51 => oneByte .clearStats args
  | 0x52 => oneByte .releaseVariant args
  | _ => .error .badRequest

/-- The tag of a request: its first two bytes, missing ones read as 0 (R165, R167). -/
def tagOf (head : List Byte) : Nat := (head.getD 0 0).toNat * 256 + (head.getD 1 0).toNat

/-- The kind of a request: its third byte, read as 0 if missing (R167). -/
def kindOf (head : List Byte) : Nat := (head.getD 2 0).toNat

/-- The tag of an overrun: 0 when the payload is too short to hold a tag (R165). -/
def overrunTag (head : List Byte) : Nat := if head.length < 2 then 0 else tagOf head

/-- The form check of R167 on a queued request: the request, or the code that refuses it. -/
def Request.form (q : Request) : Except Code Req :=
  match q.args with
  | none => .error .badRequest
  | some args => readArguments (kindOf q.head) args

end Sys2Proof.Machine
end

