-- ==== Sys2Proof/Machine/Ops.lean ====
section
/-! DEFINITION. Operations that several blocks share: the Unit List's records, role selection and channels in use, the
tables of a slot, the outbound side (offer, insertion, transmission reports) and the execution of a waiting request. -/

namespace Sys2Proof.Machine

/-! ## Unit records -/

/-- The record at a position (R67: at most one at BAY_A and one at BAY_B). -/
def State.unitAt (s : State) (p : Position) : Option UnitRecord := s.units.find? (fun u => u.position = p)

/-- The serial of the record at a position, if there is one. -/
def State.serialAt (s : State) (p : Position) : Option Serial := (s.unitAt p).map UnitRecord.serial

/-- A write by a job into the record at its bay (R68). -/
def updateUnit (s : State) (p : Position) (f : UnitRecord → UnitRecord) : State :=
  s.setUnits (s.units.map (fun u => if u.position = p then f u else u))

/-- How many records stand at a position. -/
def State.countAt (s : State) (p : Position) : Nat := (s.units.filter (fun u => u.position = p)).length

/-! ## Tables -/

/-- Variant lookup (R57): the loaded slot whose variant id equals the given one, with its number. -/
def findVariant (id : Nat) : Nat → List VariantSlot → Option (Nat × Variant × Stats)
  | _, [] => none
  | i, slot :: rest =>
    match slot.record with
    | some v => if v.id = id then some (i, v, slot.stats) else findVariant id (i + 1) rest
    | none => findVariant id (i + 1) rest

/-- Variant lookup in the part's tables (R57). -/
def State.lookup (s : State) (id : Nat) : Option (Nat × Variant × Stats) :=
  match s.tables with
  | none => none
  | some t => findVariant id 0 t.variants

/-- The profile of the given number, if it is loaded. -/
def State.profile (s : State) (n : Nat) : Option (List Segment) :=
  match s.tables with
  | none => none
  | some t => (t.profiles[n]?).join

/-- An order-set slot. -/
def State.orderSlot (s : State) (n : Nat) : Option OrderSlot :=
  match s.tables with
  | none => none
  | some t => t.orderSets[n]?

/-- The active copy of an order-set slot, if it is loaded. -/
def State.activeSet (s : State) (n : Nat) : Option OrderSet := (s.orderSlot n).bind OrderSlot.active

/-- A slot is in a window while the open window uses it (R61). -/
def State.inWindow (s : State) (slot : Nat) : Bool :=
  match s.engine.window with
  | some w => w.slot = slot
  | none => false

/-- The tables with one order-set slot changed. -/
def updateSlot (s : State) (n : Nat) (f : OrderSlot → OrderSlot) : State :=
  match s.tables with
  | none => s
  | some t => s.setTables (some { t with orderSets := modifyAt f t.orderSets n })

/-- The copy of a swap (R63): the shadow over the active copy, swap pending cleared. -/
def OrderSlot.swapped (o : OrderSlot) : OrderSlot := { o with active := o.shadow, swapPending := false }

/-- A swap is carried out (R63); the context's bay and serial are the caller's. -/
def carryOutSwap (s : State) (n : Nat) (bay : Option Bay) (serial : Option Serial) : State :=
  raise (updateSlot s n OrderSlot.swapped) .orderSetSwapped bay serial (.number n)

/-! ## Streams and channels -/

/-- The angle-source stream named in the stand record. -/
def State.angleSource (s : State) : Option Nat := s.stand.map Stand.angleSource

/-- The configuration of an entry, if it is loaded and enabled. -/
def StreamEntry.enabled (e : StreamEntry) : Option StreamConfig :=
  match e.config with
  | some c => if c.enable then some c else none
  | none => none

/-- The enabled configuration of stream entry `i`. -/
def State.enabledStream (s : State) (i : Nat) : Option StreamConfig := (s.streams[i]?).bind StreamEntry.enabled

/-- The stream the Angle Unit has as its source (R36), with its configuration. -/
def State.source (s : State) : Option StreamConfig :=
  match s.angleSource with
  | none => none
  | some i =>
    match s.enabledStream i with
    | some c => if c.hasPosition then some c else none
    | none => none

/-- Stream entry `i` binds channel `c`. -/
def StreamConfig.binds (cfg : StreamConfig) (c : Nat) : Bool := cfg.binding.contains (some c)

/-- A channel is usable for a role in a bay (R33); the bay counts for TORQUE, OIL_TEMP and PRESSURE alone. -/
def Channel.usable (ch : Channel) (role : Role) (bay : Bay) : Bool :=
  match ch.config with
  | none => false
  | some c => ch.acquire && (ch.status = .ok || ch.status = .held) && c.role = role &&
      (match role with
       | .torque | .oilTemp | .pressure => c.bay = some bay
       | .vibration | .sound | .ambientTemp => true)

/-- The lowest-numbered usable channel from number `i` on. -/
def selectFrom (role : Role) (bay : Bay) : Nat → List Channel → Option (Nat × Channel)
  | _, [] => none
  | i, ch :: rest => if ch.usable role bay then some (i, ch) else selectFrom role bay (i + 1) rest

/-- Role selection (R33): the lowest-numbered usable channel at the moment of asking. -/
def State.select (s : State) (role : Role) (bay : Bay) : Option (Nat × Channel) := selectFrom role bay 0 s.channels

/-- A channel is a required channel of the Run-in Sequencer. -/
def State.requiredA (s : State) (c : Nat) : Bool :=
  match s.runIn.run with
  | some r => r.torqueChannel = c || r.oilChannel = c
  | none => false

/-- A channel is the required channel of the Leak Sequencer. -/
def State.requiredB (s : State) (c : Nat) : Bool :=
  match s.leak.run with
  | some r => r.channel = c
  | none => false

/-- A channel is in use (R34). -/
def State.inUse (s : State) (c : Nat) : Bool :=
  s.requiredA c || s.requiredB c ||
    (match s.engine.window with
     | some w => w.channels.any (fun e => e.1 = c)
     | none => false)

/-- One channel changed. -/
def updateChannel (s : State) (c : Nat) (f : Channel → Channel) : State := s.setChannels (modifyAt f s.channels c)

/-- One stream entry changed. -/
def updateStream (s : State) (i : Nat) (f : StreamEntry → StreamEntry) : State := s.setStreams (modifyAt f s.streams i)

/-- A channel's runtime cleared and its status set by its acquire-enable (R27). -/
def Channel.cleared (ch : Channel) : Channel :=
  { ch with status := if ch.acquire then .waiting else .disabled, lastRaw := none, lastValue := none, clipCount := 0,
            filledCount := 0, flatRun := 0 }

/-! ## The outbound side -/

/-- What the Outbound Arbiter offers (R161). -/
inductive Offer where
  | drive (dest : Nat) (c : DriveCommand)
  | valve (dest : Nat) (c : ValveCommand)
  | reply (r : Reply)
  | notice (src : Source)
  | report (r : Report)
  deriving DecidableEq, Repr

/-- The offer of one class (R161): the next frame of the oldest reply, the Notice Unit's notice, or the next segment of
the oldest report. -/
def classOffer (s : State) : OutClass → Option Offer
  | .reply => s.arbiter.replies.head?.map .reply
  | .notice => s.notices.offer.map .notice
  | .report => s.reports.reports.head?.map .report

/-- The first frame found: drive slot, valve slot, then the classes in class order (R161). -/
def offer (s : State) : Option Offer :=
  match s.arbiter.driveSlot with
  | some (dest, c) => some (.drive dest c)
  | none =>
    match s.arbiter.valveSlot with
    | some (dest, c) => some (.valve dest c)
    | none => s.notices.settings.classes.findSome? (classOffer s)

/-- The transmit line becomes busy with one of the part's own frames (R12). -/
def putOnLine (s : State) (dest kind : Nat) (payload : List Byte) (origin : Origin) : State :=
  s.setRing { s.ring with line := some { bytes := ownFrame s.ring.node dest kind payload, origin := origin } }

/-- The insertion of an offer begins: the frame goes on the line and the place it came from acts as its rule states
(R162: the slot empties; R163, R153: the queue waits for the transmission report; R158: the notice is taken). -/
def insertOffer (s : State) : Offer → State
  | .drive dest c =>
    (putOnLine s dest kindCommand c.payload (.drive c.number)).setArbiter { s.arbiter with driveSlot := none }
  | .valve dest c =>
    (putOnLine s dest kindCommand c.payload (.valve c.number)).setArbiter { s.arbiter with valveSlot := none }
  | .reply r => putOnLine s r.dest kindReply (r.payload s.arbiter.sent) .reply
  | .notice src =>
    match (s.notices.record src).occurrence with
    | none => s
    | some o =>
      (putOnLine s 0 kindNotice (noticePayload src o s.timeBase) .notice).setNotices (s.notices.take src)
  | .report r => putOnLine s 0 kindReport (r.payload s.reports.transmitted) (.report r.number s.reports.transmitted)

/-- Both safe commands have been reported transmitted (R170). -/
def State.clearingDue (s : State) : Option ResetWait :=
  match s.requests.resetWait with
  | some w => if w.driveDone && w.valveDone then some w else none
  | none => none

/-- What the transmit port does when the line is idle (R11): the oldest frame of the forward buffer begins, or the
Arbiter's offer is inserted, or the line stays idle.  Nothing is inserted in BYPASS (R2) or in reset (R172), nor between
the second transmission report of a station reset and its clearing, since a report is passed on before the Ring Port
chooses what follows (R161, R170; DEDUCED, notes/assumptions/12.md).  It is the last act of a step (DESIGN CHOICE,
notes/assumptions/37.md). -/
def pump (s : State) : State :=
  match s.ring.line with
  | some _ => s
  | none =>
    match s.ring.buffer with
    | frame :: rest =>
      s.setRing { s.ring with line := some { bytes := frame, origin := .transit }, buffer := rest,
                              forwarded := sat16 s.ring.forwarded }
    | [] =>
      if s.pins.resetHeld || s.ring.port = .bypass || s.clearingDue.isSome then s
      else
        match offer s with
        | none => s
        | some o => insertOffer s o

/-! ## Executing a waiting request -/

/-- An answer: completion code and reply content (R166). -/
structure Answer where
  code : Code
  content : List Byte
  deriving DecidableEq, Repr

/-- A refusal, with the state as it was. -/
def refuse (s : State) (c : Code) : State × Answer := (s, { code := c, content := [] })

/-- OK with an empty payload. -/
def accept (s : State) : State × Answer := (s, { code := .ok, content := [] })

/-- OK with content. -/
def acceptWith (s : State) (content : List Byte) : State × Answer := (s, { code := .ok, content := content })

/-- The loader is in LOADING (R175). -/
def LoaderState.loading : LoaderState → Bool
  | .reading => true
  | .replaying _ _ _ => true
  | _ => false

/-- The three conditions of R166 for beginning the oldest request, in a part that is not held in reset. -/
def State.mayExecute (s : State) : Bool :=
  !s.pins.resetHeld && decide (s.arbiter.replies.length < 4) && s.requests.resetWait.isNone && !s.loader.loading

/-- The oldest waiting request, when the Request Unit may begin it (R166). -/
def State.oldest (s : State) : Option Request := if s.mayExecute then s.requests.queue.head? else none

/-- Execution takes the request out of the queue (R166). -/
def dequeue (s : State) : State := s.setRequests { s.requests with queue := s.requests.queue.tail }

/-- A reply joins the reply queue at the end (R163). -/
def enqueueReply (s : State) (r : Reply) : State :=
  s.setArbiter { s.arbiter with replies := s.arbiter.replies ++ [r] }

/-- The reply of R166 to a request. -/
def replyTo (q : Request) (a : Answer) : Reply :=
  { dest := q.src, tag := tagOf q.head, kind := kindOf q.head, code := a.code.number, content := a.content }

/-- One request executed in one act (R166): out of the queue, its effect, its reply.  An idle line takes what it finds after
all of that (DESIGN CHOICE, notes/assumptions/37.md). -/
def executeOne (s : State) (q : Request) (effect : State → State × Answer) : State :=
  let (t, a) := effect (dequeue s)
  pump (enqueueReply t (replyTo q a))

/-- The step of one request kind: the oldest waiting request is executed if it may begin, passes the form check and is
of the kind `pick` names; otherwise this step does not come about and nothing changes (notes/assumptions/6.md). -/
def executeKind (s : State) (pick : Req → Option (State → State × Answer)) : State :=
  match s.oldest with
  | none => s
  | some q =>
    match q.form with
    | .error _ => s
    | .ok r =>
      match pick r with
      | none => s
      | some effect => executeOne s q effect

end Sys2Proof.Machine
end

