-- ==== Sys2Proof/Machine/Engine.lean ====
section
/-! DEFINITION. The Order Engine (spec/07_order_analysis.md, R102 to R119). -/

namespace Sys2Proof.Machine

/-! ## Opening a window -/

/-- The order value of an entry, in q16 (R105). -/
def orderValue (v : Variant) (e : OrderEntry) : Nat :=
  match e.base with
  | .shaft => e.harmonic * 65536
  | .mesh => e.harmonic * v.pinionTeeth * 65536
  | .wheel => (e.harmonic * v.pinionTeeth * 65536 * 2 + v.ringTeeth) / (2 * v.ringTeeth)
  | .direct => e.direct

/-- The entry of a listed channel at the opening (R104). -/
def channelEntry (s : State) (c : Nat) : ChannelEntry :=
  match s.channels[c]? with
  | none => .excluded
  | some ch =>
    match ch.config with
    | none => .excluded
    | some cfg =>
      let faulted := match ch.status with | .fault _ => true | _ => false
      let bound := match s.angleSource with
        | some i => (match s.enabledStream i with | some e => e.binds c | none => false)
        | none => false
      if ch.acquire && !faulted && bound && (cfg.role = .vibration || cfg.role = .sound) then .included else .excluded

/-- A finding accumulator at zero. -/
def PairCount.zero : PairCount := { valid := 0, fail := 0, invalid := 0, worst := none }

/-- One row of `x` per order, one `x` per channel. -/
def pairGrid {α : Type} (orders channels : Nat) (x : α) : List (List α) :=
  List.replicate orders (List.replicate channels x)

/-- The window opened on a loaded active copy (R103). -/
def openedWindow (s : State) (segment slot : Nat) (set : OrderSet) (v : Variant) : Window :=
  { segment := segment, slot := slot, orderValues := set.orders.map (orderValue v),
    channels := set.channels.map (fun c => (c, channelEntry s c)), validBlocks := 0,
    pairs := pairGrid set.orders.length set.channels.length PairCount.zero, block := none }

/-- The variant of the record at BAY_A, by variant lookup (R57, R103). -/
def State.variantAtA (s : State) : Option Variant :=
  match s.unitAt .bayA with
  | none => none
  | some u => (s.lookup u.variantId).map (fun x => x.2.1)

/-- The engine's answer at HOLD entry: whether analysis is unavailable (R103). -/
def openWindow (s : State) (segment : Nat) (slot : Option Nat) : Bool × State :=
  match slot with
  | none => (false, s)
  | some n =>
    match s.activeSet n with
    | none => (true, s.setEngine { s.engine with unavailableSeen := true })
    | some set =>
      match s.variantAtA with
      | none => (false, s)
      | some v => (false, s.setEngine { s.engine with window := some (openedWindow s segment n set v) })

/-! ## Blocks -/

/-- A block begins at a boundary (R106). -/
def Block.begun (orders channels : Nat) : Block :=
  { r := 0, n := 0, filled := 0, clipped := false, spread := none, direction := none, mixed := false,
    sums := pairGrid orders channels (0, 0) }

/-- The window's next block begins (R106). -/
def Window.begin (w : Window) : Window :=
  { w with block := some (Block.begun w.orderValues.length w.channels.length) }

/-- One row of pairs changed in the columns of the INCLUDED channels; `f` also takes the column. -/
def mapIncluded {α : Type} (f : Nat → α → α) : Nat → List (Nat × ChannelEntry) → List α → List α
  | _, _, [] => []
  | _, [], xs => xs
  | j, (_, e) :: cs, x :: xs => (if e = .included then f j x else x) :: mapIncluded f (j + 1) cs xs

/-- A count of a pair that a block spoiled. -/
def PairCount.spoiled (p : PairCount) : PairCount := { p with invalid := sat16 p.invalid }

/-- The invalid count of every pair of every INCLUDED channel increases by 1 (R110, R111). -/
def Window.spoilAll (w : Window) : Window :=
  { w with pairs := w.pairs.map (mapIncluded (fun _ => PairCount.spoiled) 0 w.channels) }

/-- The speed spread with one more revolution's |speed| (R106). -/
def widen (spread : Option (Nat × Nat)) (speed : Nat) : Option (Nat × Nat) :=
  match spread with
  | none => some (speed, speed)
  | some (lo, hi) => some (min lo speed, max hi speed)

/-- A timed revolution closed within the block is taken in (R106). -/
def Block.takeRevolution (b : Block) (speed : Int) (dir : Direction) : Block :=
  { b with spread := widen b.spread speed.natAbs,
           direction := some (b.direction.getD dir),
           mixed := b.mixed || (match b.direction with | some d => d != dir | none => false) }

/-- The block speed v (R111): the magnitude floored, then made negative in REVERSE. -/
def blockSpeed (fs revs : Nat) (b : Block) : Int :=
  let magnitude : Nat := 240 * fs * revs / b.n
  if b.direction = some .reverse then -(magnitude : Int) else magnitude

/-- The marks of R111. -/
inductive BlockMark where
  | clipped | filled | short | long | unsteady
  deriving DecidableEq, Repr

/-- The block's mark: the first of R111's conditions that applies, if one does. -/
def blockMark (steadiness : Nat) (v : Int) (long : Bool) (b : Block) : Option BlockMark :=
  if b.clipped then some .clipped
  else if b.n < b.filled * 100 then some .filled
  else if b.n < 64 then some .short
  else if long then some .long
  else
    let spread := match b.spread with | some (lo, hi) => hi - lo | none => 0
    if b.mixed || steadiness * v.natAbs < spread * 1000 then some .unsteady else none

/-- An order is ABOVE_BAND in a block (R112). -/
def aboveBand (order revs n : Nat) : Bool := decide (n * 65536 ≤ 2 * order * revs)

/-- The amplitude A of a pair (R113). -/
def amplitude (c s : Int) (n : Nat) : Nat :=
  min 65535 ((isqrt (c.natAbs * c.natAbs + s.natAbs * s.natAbs) + 512 * n) / (1024 * n))

/-- The limit of a curve at |v| between two neighbouring points, the floor toward minus infinity (R114). -/
def interpolate (p q : CurvePoint) (v : Nat) : Int :=
  (p.limit : Int) + floorDiv (((q.limit : Int) - p.limit) * ((v : Int) - p.speed)) ((q.speed : Int) - p.speed)

/-- The limit L of a curve at |v| beyond its first point (R114). -/
def limitFrom : CurvePoint → List CurvePoint → Nat → Int
  | p, [], _ => p.limit
  | p, q :: rest, v => if v < q.speed then interpolate p q v else limitFrom q rest v

/-- The limit L of a curve at |v| (R114). -/
def limitAt (curve : List CurvePoint) (v : Nat) : Int :=
  match curve with
  | [] => 0
  | p :: rest => if v ≤ p.speed then p.limit else limitFrom p rest v

/-- A pair judged on a block (R115): its counts and its worst block. -/
def PairCount.judged (p : PairCount) (a l : Nat) (v : Int) : PairCount :=
  let margin : Int := (l : Int) - a
  let counted := { p with valid := sat16 p.valid, fail := if l < a then sat16 p.fail else p.fail }
  let new : Worst := { a := a, l := l, v := v, margin := margin }
  match p.worst with
  | none => { counted with worst := some new }
  | some w => if margin < w.margin then { counted with worst := some new } else counted

/-- One order of an unmarked block judged for every INCLUDED channel (R112 to R115). -/
def judgeOrder (w : Window) (set : OrderSet) (b : Block) (v : Int) (order : Nat) (entry : OrderEntry)
    (sums : List (Int × Int)) (row : List PairCount) : List PairCount :=
  if aboveBand order set.revs b.n then mapIncluded (fun _ => PairCount.spoiled) 0 w.channels row
  else
    let limit := (limitAt entry.curve v.natAbs).toNat
    mapIncluded (fun j p =>
      let cs := sums.getD j (0, 0)
      p.judged (amplitude cs.1 cs.2 b.n) limit v) 0 w.channels row

/-- Every order of an unmarked block judged (R112). -/
def judgeOrders (w : Window) (set : OrderSet) (b : Block) (v : Int) :
    List Nat → List OrderEntry → List (List (Int × Int)) → List (List PairCount) → List (List PairCount)
  | o :: os, e :: es, cs :: css, row :: rows =>
    judgeOrder w set b v o e cs row :: judgeOrders w set b v os es css rows
  | _, _, _, rows => rows

/-- A block closes (R111): marked, it adds to the invalid counts; unmarked, it is a valid block and is judged.  The
engine is then without a block. -/
def closeBlock (w : Window) (set : OrderSet) (fs : Nat) (long : Bool) (b : Block) : Window :=
  let v := blockSpeed fs set.revs b
  match blockMark set.steadiness v long b with
  | some _ => { w.spoilAll with block := none }
  | none => { w with validBlocks := sat16 w.validBlocks,
                     pairs := judgeOrders w set b v w.orderValues set.orders b.sums w.pairs, block := none }

/-! ## Events -/

/-- The boundary event of R47. -/
structure Boundary where
  revolutions : BitVec 32
  count : Nat
  /-- none: untimed -/
  speed : Option Int
  direction : Direction
  deriving DecidableEq, Repr

/-- The open window changed by `f`, which also takes its order set and the source's sample rate. -/
def withWindow (s : State) (f : Window → OrderSet → Nat → Window) : State :=
  match s.engine.window with
  | none => s
  | some w =>
    match s.activeSet w.slot with
    | none => s
    | some set => s.setEngine { s.engine with window := some (f w set ((s.source.map StreamConfig.fs).getD 0)) }

/-- What a boundary event does to a window (R106). -/
def Window.boundary (w : Window) (set : OrderSet) (fs : Nat) (e : Boundary) : Window :=
  match w.block with
  | none => w.begin
  | some b =>
    match e.speed with
    | none => { w.spoilAll with block := none }.begin
    | some speed =>
      let b' := b.takeRevolution speed e.direction
      if b.r + 1 < set.revs then { w with block := some { b' with r := b.r + 1 } }
      else (closeBlock w set fs false b').begin

/-- A boundary event reaches the engine (R106). -/
def engineBoundary (s : State) (e : Boundary) : State := withWindow s (fun w set fs => w.boundary set fs e)

/-- A block in flight ends at once as invalid, and the engine waits for a boundary (R110). -/
def Window.invalidate (w : Window) : Window :=
  match w.block with
  | none => w
  | some _ => { w.spoilAll with block := none }

/-- A gap notice of the angle-source stream, a slip event or the source's going STALE reaches the engine (R110). -/
def engineBreak (s : State) : State :=
  match s.engine.window with
  | none => s
  | some w => s.setEngine { s.engine with window := some w.invalidate }

/-- What a channel publishes (R28). -/
structure Published where
  channel : Nat
  role : Role
  bay : Option Bay
  raw : Int
  value : Int
  clipped : Bool
  filled : Bool
  deriving DecidableEq, Repr

/-- The value a channel published for the present set. -/
def publishedBy (values : List Published) (c : Nat) : Option Published := values.find? (fun p => p.channel = c)

/-- phase16 of an order at θ = r × 65536 + angle16 (R107). -/
def phase16 (order r angle16 : Nat) : Nat := order * (r * 65536 + angle16) / 65536 % 65536

/-- One order's sums with this set's values (R107). -/
def accumulateOrder (w : Window) (values : List Published) (phase : Nat) (sums : List (Int × Int)) : List (Int × Int) :=
  let sine := sinTable (phase / 64)
  let cosine := sinTable ((phase + 16384) % 65536 / 64)
  mapIncluded (fun j cs =>
    match publishedBy values ((w.channels.getD j (0, .excluded)).1) with
    | some p => (cs.1 + p.raw * cosine, cs.2 + p.raw * sine)
    | none => cs) 0 w.channels sums

/-- An INCLUDED channel's value from this set carries the clipped mark (R107). -/
def Window.clippedBy (w : Window) (values : List Published) : Bool :=
  w.channels.any (fun c => c.2 = .included && values.any (fun p => p.channel = c.1 && p.clipped))

/-- The angle record of R47: angle16, the filled mark and direction.  The Order Engine uses the first two (R107). -/
structure AngleRecord where
  angle16 : Nat
  filled : Bool
  direction : Direction
  deriving DecidableEq, Repr

/-- What an angle record does to a window (R107). -/
def Window.record (w : Window) (set : OrderSet) (fs : Nat) (a : AngleRecord) (values : List Published) : Window :=
  match w.block with
  | none => w
  | some b =>
    let sums := List.zipWith (fun o row => accumulateOrder w values (phase16 o b.r a.angle16) row) w.orderValues b.sums
    let b' := { b with sums := sums, n := b.n + 1, filled := if a.filled then b.filled + 1 else b.filled,
                       clipped := b.clipped || w.clippedBy values }
    if b'.n < 4194304 then { w with block := some b' } else closeBlock w set fs true b'

/-- An angle record reaches the engine with the values published from the same set (R107). -/
def engineRecord (s : State) (a : AngleRecord) (values : List Published) : State :=
  withWindow s (fun w set fs => w.record set fs a values)

/-- The pairs of one channel changed in every row. -/
def mapChannel {α : Type} (f : α → α) (c : Nat) : List (Nat × ChannelEntry) → List α → List α
  | _, [] => []
  | [], xs => xs
  | (c', e) :: cs, x :: xs => (if c' = c ∧ e = .included then f x else x) :: mapChannel f c cs xs

/-- What a channel's withdrawal does to a window (R109). -/
def Window.withdraw (w : Window) (c : Nat) : Window :=
  let entries := w.channels.map (fun e => if e.1 = c ∧ e.2 = .included then (e.1, ChannelEntry.withdrawn) else e)
  match w.block with
  | none => { w with channels := entries }
  | some b =>
    { w with channels := entries, pairs := w.pairs.map (mapChannel PairCount.spoiled c w.channels),
             block := some { b with sums := b.sums.map (mapChannel (fun _ => (0, 0)) c w.channels) } }

/-- A channel enters FAULT or loses its acquire-enable (R109). -/
def engineWithdraw (s : State) (c : Nat) : State :=
  match s.engine.window with
  | none => s
  | some w => s.setEngine { s.engine with window := some (w.withdraw c) }

/-! ## Closing a window -/

/-- The verdict of a finding (R116). -/
def findingVerdict (set : OrderSet) (e : ChannelEntry) (p : PairCount) : FindingVerdict :=
  if e = .excluded then .unavailable
  else if set.failCount ≤ p.fail then .fail
  else if p.valid < set.minValid then .fewBlocks
  else .pass

/-- The findings of one order, in analysis channel list order. -/
def findingsOfOrder (set : OrderSet) (segment order : Nat) : List (Nat × ChannelEntry) → List PairCount → List Finding
  | (c, e) :: cs, p :: ps =>
    { segment := segment, order := order, channel := c, valid := p.valid, fail := p.fail, invalid := p.invalid,
      worst := p.worst, verdict := findingVerdict set e p } :: findingsOfOrder set segment order cs ps
  | _, _ => []

/-- The findings of a window, in order list order (R116). -/
def findingsFrom (set : OrderSet) (w : Window) : Nat → List (List PairCount) → List Finding
  | _, [] => []
  | k, row :: rows => findingsOfOrder set w.segment k w.channels row ++ findingsFrom set w (k + 1) rows

/-- Where a finding stands for R117: none (without a margin) stands above every margin. -/
def Finding.margin (f : Finding) : Option Int := f.worst.map Worst.margin

/-- `a` stands lower than `b` (R117). -/
def standsLower (a b : Option Int) : Bool :=
  match a, b with
  | some x, some y => x < y
  | some _, none => true
  | none, _ => false

/-- The retained finding of highest standing, the one nearest the front among equals (R117). -/
def highest : List Finding → Option Finding
  | [] => none
  | f :: rest =>
    match highest rest with
    | none => some f
    | some g => if standsLower f.margin g.margin then some g else some f

/-- The first element equal to `x` removed; those behind it close up. -/
def removeFirst {α : Type} [DecidableEq α] (x : α) : List α → List α
  | [] => []
  | y :: ys => if y = x then ys else y :: removeFirst x ys

/-- A finding is offered to a record's findings list (R117). -/
def offerFinding (u : UnitRecord) (f : Finding) : UnitRecord :=
  if u.findings.length < 48 then { u with findings := u.findings ++ [f] }
  else
    match highest u.findings with
    | none => { u with truncated := true }
    | some g =>
      if standsLower f.margin g.margin then
        { u with findings := removeFirst g u.findings ++ [f], truncated := true }
      else { u with truncated := true }

/-- A verdict is NO_RESULT. -/
def FindingVerdict.noResult : FindingVerdict → Bool
  | .fewBlocks | .unavailable => true
  | .pass | .fail => false

/-- The engine closes its window (R116): the block in flight is cut, the findings are formed and offered, the run record
takes them in, the engine is CLOSED, and a pending swap on the slot is carried out (R63).  Answers valid blocks. -/
def closeWindow (s : State) : Nat × State :=
  match s.engine.window with
  | none => (0, s)
  | some w =>
    match s.activeSet w.slot with
    | none => (w.validBlocks, s.setEngine { s.engine with window := none })
    | some set =>
      let findings := findingsFrom set w 0 w.pairs
      let s1 := s.setEngine
        { window := none, failSeen := s.engine.failSeen || findings.any (fun f => f.verdict = .fail),
          noResultSeen := s.engine.noResultSeen || findings.any (fun f => f.verdict.noResult),
          unavailableSeen := s.engine.unavailableSeen }
      let s2 := updateUnit s1 .bayA (fun u => findings.foldl offerFinding u)
      let pending := match s.orderSlot w.slot with | some o => o.swapPending | none => false
      (w.validBlocks, if pending then carryOutSwap s2 w.slot (some .a) (s2.serialAt .bayA) else s2)

/-! ## The noise result -/

/-- The noise result (R119). -/
def noiseResult (e : Engine) (profile : List Segment) (pass : Bool) : NoiseResult :=
  if profile.all (fun seg => seg.slot.isNone) then .notRun
  else if e.failSeen then .fail
  else if e.noResultSeen || e.unavailableSeen || !pass then .noResult
  else .pass

/-- The engine settles the noise result into the record at BAY_A and clears its run record (R119). -/
def settleNoise (s : State) (profile : List Segment) (pass : Bool) : State :=
  (updateUnit s .bayA (fun u => { u with noise := noiseResult s.engine profile pass })).setEngine
    { s.engine with failSeen := false, noResultSeen := false, unavailableSeen := false }

end Sys2Proof.Machine
end

