-- ==== Sys2Proof/Machine/LeakTest.lean ====
section
/-! DEFINITION. The Leak Sequencer (spec/08_leak_testing.md, R121 to R139): valve commands, the test phases and the
compensated leak rate. -/

namespace Sys2Proof.Machine

/-! ## Valve commands -/

/-- A valve command placed in the valve command slot, replacing one still there (R124, R162). -/
def placeValve (s : State) (c : ValveCommand) : State :=
  match s.stand with
  | none => s
  | some st => s.setArbiter { s.arbiter with valveSlot := some (st.valveNode, c) }

/-- A new valve command is issued (R124); while suppressed, nothing is placed and nothing changes. -/
def issueValve (s : State) (kind : ValveKind) : State :=
  if s.leak.suppressed then s
  else
    let c : ValveCommand := { kind := kind, number := (s.leak.commandNumber + 1) % 256 }
    placeValve (s.setLeak { s.leak with commandNumber := c.number, lastCommand := some kind,
                                        refreshStart := some s.timeBase }) c

/-- The last valve command is repeated (R125); while suppressed, nothing is placed and nothing changes. -/
def repeatValve (s : State) : State :=
  if s.leak.suppressed then s
  else
    match s.leak.lastCommand with
    | none => s
    | some kind =>
      placeValve (s.setLeak { s.leak with refreshStart := some s.timeBase })
        { kind := kind, number := s.leak.commandNumber }

/-! ## Phases -/

/-- The present test, if the sequencer is outside IDLE, changed by `f`. -/
def updateTest (s : State) (f : LeakRun → LeakRun) : State :=
  match s.leak.run with
  | none => s
  | some r => s.setLeak { s.leak with run := some (f r) }

/-- FILL, SETTLE or MEASURE. -/
def LeakPhase.testing : LeakPhase → Bool
  | .fill | .settle | .measure => true
  | .vent | .faulted => false

/-- A new phase with its phase start. -/
def enterPhase (s : State) (phase : LeakPhase) : State :=
  updateTest s (fun r => { r with phase := phase, phaseStart := s.timeBase })

/-- To take an outcome (R134): in FILL, SETTLE or MEASURE it becomes the pending outcome with its leak result, and the
sequencer enters VENT; elsewhere it is not taken. -/
def takeLeakOutcome (s : State) (o : LeakOutcome) (result : Option LeakResult) : State :=
  match s.leak.run with
  | none => s
  | some r =>
    if r.phase.testing then
      issueValve (enterPhase (updateTest s (fun r => { r with pending := some o, result := result })) .vent) .vent
    else s

/-- The test as MEASURE is entered at `now` with the ambient channel's last value, if there is one (R129). -/
def LeakRun.measuring (r : LeakRun) (now : Time) (ambient : Option Int) : LeakRun :=
  { r with phase := .measure, phaseStart := now, tMs := some now, first := [], recent := [],
           ambient := some (ambient.getD r.stand.defaultAmbient) }

/-- Entry to MEASURE (R129). -/
def enterMeasure (s : State) : State :=
  match s.leak.run with
  | none => s
  | some r =>
    let ambient := (s.select .ambientTemp .b).bind (fun x => x.2.lastValue)
    s.setLeak { s.leak with run := some (r.measuring s.timeBase ambient), count := 0 }

/-- Entry to SETTLE (R127): ISOLATE; a settle time of 0 ends it at its entry (R128). -/
def enterLeakSettle (s : State) : State :=
  match s.leak.run with
  | none => s
  | some r =>
    let s1 := issueValve (enterPhase s .settle) .isolate
    if r.variant.settleTime = 0 then enterMeasure s1 else s1

/-! ## The computation -/

/-- P1 and P2 of R130: the floor of a list's mean. -/
def meanOf (values : List Int) : Int := floorDiv values.sum values.length

/-- E(t) of R132. -/
def excess (e0 span t : Nat) : Nat := e0 * (span - t) / span

/-- E0 of R132 and whether the result is flagged UNCOMPENSATED. -/
def initialExcess (u : UnitRecord) (ambient : Int) : Nat × Bool :=
  match u.tEnd, u.tEndAt with
  | some t, some _ => ((max 0 (t - ambient)).toNat, false)
  | _, _ => (0, true)

/-- The leak result of R132 and R133 from P1, P2, the record, A_amb, t_ms and the tables' values. -/
def leakComputation (st : Stand) (v : Variant) (u : UnitRecord) (ambient : Int) (tMs : Time) (p1 p2 : Int) :
    LeakResult :=
  let dMeas := p1 - p2
  let e0 := (initialExcess u ambient).1
  let t1 := match u.tEndAt with | some t => elapsed tMs t | none => 0
  let t2 := t1 + v.measureTime
  let e1 := excess e0 v.coolingSpan t1
  let dE := e1 - excess e0 v.coolingSpan t2
  let tAbs := max 20000 (27315 + ambient + e1)
  let pAbs := max 0 (p1 + st.patm)
  let dTherm := floorDiv (pAbs * dE) tAbs
  let raw := dMeas - dTherm
  let dLeak := if raw < 0 then 0 else raw
  let q := floorDiv (dLeak * v.volume * 6000000) ((st.patm : Int) * v.measureTime)
  { p1 := p1, p2 := p2, dMeas := dMeas, dTherm := dTherm, dLeak := dLeak, q := min 65535 q.toNat,
    uncompensated := (initialExcess u ambient).2, gain := decide (raw < 0) }

/-- MEASURE ends (R131). -/
def endMeasure (s : State) : State :=
  match s.leak.run, s.unitAt .bayB with
  | some r, some u =>
    if s.leak.count = 0 then takeLeakOutcome s (.aborted .stream) none
    else
      let result := leakComputation r.stand r.variant u (r.ambient.getD r.stand.defaultAmbient)
        (r.tMs.getD r.phaseStart) (meanOf r.first) (meanOf r.recent)
      takeLeakOutcome s (if result.q ≤ r.variant.leakLimit then .pass else .fail .rate) (some result)
  | _, _ => s

/-! ## Pressures -/

/-- The two lists of MEASURE with one more pressure (R130). -/
def LeakRun.measured (r : LeakRun) (x : Int) : LeakRun :=
  let recent := r.recent ++ [x]
  { r with first := if r.first.length < r.variant.window then r.first ++ [x] else r.first,
           recent := if r.variant.window < recent.length then recent.tail else recent }

/-- The pending outcome written into the record at BAY_B (R136, R137). -/
def writeLeak (s : State) (r : LeakRun) : State :=
  match r.pending with
  | none => s
  | some o => updateUnit s .bayB (fun u => { u with leak := .done o, leakResult := r.result })

/-- A notice about the leak test of the record at BAY_B, with its outcome and cause. -/
def raiseLeak (s : State) (src : Source) (r : LeakRun) : State :=
  match r.pending with
  | none => s
  | some o => raise s src (some .b) (s.serialAt .bayB) (.leak o)

/-- VENT ends at the vent threshold (R136). -/
def endVent (s : State) (r : LeakRun) : State :=
  let s1 := if r.written then s else writeLeak s r
  let s2 := issueValve (raiseLeak s1 .leakEnd r) .vent
  s2.setLeak { s2.leak with run := none }

/-- A pressure is taken and judged by the rule of the state it finds (R126 to R128, R130, R136). -/
def takePressure (s : State) (r : LeakRun) (x : Int) : State :=
  let target : Int := r.variant.targetPressure
  let band : Int := r.variant.fillBand
  match r.phase with
  | .fill =>
    if target + band < x then takeLeakOutcome s (.aborted .pressureHigh) none
    else if target - band ≤ x then enterLeakSettle s
    else s
  | .settle => if x < target - 2 * band then takeLeakOutcome s (.fail .gross) none else s
  | .measure => s.setLeak { s.leak with run := some (r.measured x), count := satSucc 4294967295 s.leak.count }
  | .vent => if x ≤ r.stand.ventThreshold then endVent s r else s
  | .faulted => s

/-- A published value reaches the Leak Sequencer: taken from its required channel (R126). -/
def leakValue (s : State) (p : Published) : State :=
  match s.leak.run with
  | none => s
  | some r => if p.channel = r.channel then takePressure s r p.value else s

/-- A stream goes STALE: ABORTED with cause STREAM if it carries the required channel (R134). -/
def leakStale (s : State) (cfg : StreamConfig) : State :=
  match s.leak.run with
  | none => s
  | some r => if cfg.binds r.channel then takeLeakOutcome s (.aborted .stream) none else s

/-- A channel enters FAULT or loses its acquire-enable: ABORTED with cause CHANNEL if it is required (R134). -/
def leakChannelLost (s : State) (c : Nat) : State :=
  if s.requiredB c then takeLeakOutcome s (.aborted .channel) none else s

/-- The vent timeout (R137): the outcome written, VENT issued, VENT_TIMEOUT raised, FAULTED. -/
def ventTimedOut (s : State) (r : LeakRun) : State :=
  let s1 := if r.written then s else writeLeak s r
  let s2 := raiseLeak (issueValve s1 .vent) .ventTimeout r
  updateTest s2 (fun r => { r with written := true, phase := .faulted, phaseStart := s.timeBase })

/-! ## The timers' conditions -/

/-- A timer of the present test has run for at least `limit r` in a phase. -/
def State.leakDue (s : State) (phase : LeakPhase) (limit : LeakRun → Nat) : Bool :=
  match s.leak.run with
  | none => false
  | some r => r.phase = phase && decide (limit r ≤ elapsed s.timeBase r.phaseStart)

/-- FILL has lasted the fill timeout (R127). -/
def State.fillDue (s : State) : Bool := s.leakDue .fill (fun r => r.variant.fillTimeout)

/-- SETTLE has lasted the settle time (R128). -/
def State.leakSettleDue (s : State) : Bool := s.leakDue .settle (fun r => r.variant.settleTime)

/-- MEASURE has lasted t_m from t_ms, its phase start (R129, R131). -/
def State.measureDue (s : State) : Bool := s.leakDue .measure (fun r => r.variant.measureTime)

/-- VENT has lasted the vent timeout (R137). -/
def State.ventDue (s : State) : Bool := s.leakDue .vent (fun r => r.stand.ventTimeout)

/-- The refresh period has passed since the last issue, in FILL, SETTLE, MEASURE or VENT, and valve commands are not
suppressed (R125, R139). -/
def State.valveRefreshDue (s : State) : Bool :=
  match s.leak.run, s.leak.refreshStart with
  | some r, some start =>
    r.phase != .faulted && !s.leak.suppressed && decide (r.stand.refresh ≤ elapsed s.timeBase start)
  | _, _ => false

end Sys2Proof.Machine
end

