-- ==== Sys2Proof/Machine/RunIn.lean ====
section
/-! DEFINITION. The Run-in Sequencer (spec/06_run_in.md, R82 to R101): drive commands, segments, supervision, outcomes and
stopping. -/

namespace Sys2Proof.Machine

/-! ## Drive commands -/

/-- Drive commands are held back from the issue of a station reset's safe commands to its clearing (R169). -/
def State.driveHeldBack (s : State) : Bool := s.requests.resetWait.isSome

/-- A drive command placed in the drive command slot, replacing one still there (R88, R162). -/
def placeDrive (s : State) (c : DriveCommand) : State :=
  match s.stand with
  | none => s
  | some st => s.setArbiter { s.arbiter with driveSlot := some (st.driveNode, c) }

/-- A new drive command built: the next number, and target speed 0 while the guard state is ASSERTED (R88). -/
def newDrive (r : RunIn) (run : Bool) (speed : Int) (ramp : Nat) (torque : Int) : DriveCommand :=
  { run := run, number := (r.commandNumber + 1) % 256, speed := if r.guardAsserted then 0 else speed, ramp := ramp,
    torque := torque }

/-- A new drive command is issued whatever else is going on (R88). -/
def issueDriveNow (s : State) (run : Bool) (speed : Int) (ramp : Nat) (torque : Int) : State :=
  let c := newDrive s.runIn run speed ramp torque
  placeDrive (s.setRunIn { s.runIn with commandNumber := c.number, lastCommand := some c,
                                        refreshStart := some s.timeBase }) c

/-- A new drive command is issued (R88), unless a station reset holds drive commands back (R169). -/
def issueDrive (s : State) (run : Bool) (speed : Int) (ramp : Nat) (torque : Int) : State :=
  if s.driveHeldBack then s else issueDriveNow s run speed ramp torque

/-- The last drive command is repeated (R89), unless a station reset holds drive commands back (R169). -/
def repeatDrive (s : State) : State :=
  if s.driveHeldBack then s
  else
    match s.runIn.lastCommand with
    | none => s
    | some c => placeDrive (s.setRunIn { s.runIn with refreshStart := some s.timeBase }) c

/-! ## Phases -/

/-- The present run, if the sequencer is outside IDLE, changed by `f`. -/
def updateRun (s : State) (f : SpinRun → SpinRun) : State :=
  match s.runIn.run with
  | none => s
  | some r => s.setRunIn { s.runIn with run := some (f r) }

/-- The segment in progress. -/
def SpinRun.current (r : SpinRun) : Option Segment := r.profile[r.segment]?

/-- RAMP, SETTLE or HOLD. -/
def SpinPhase.supervised : SpinPhase → Bool
  | .ramp | .settle | .hold => true
  | .stopping | .faulted => false

/-- Entry to STOPPING (R97): t_end and T_end recorded, the stop command issued, the stop timeout started. -/
def enterStopping (s : State) : State :=
  match s.runIn.run with
  | none => s
  | some r =>
    let tEnd := (s.select .oilTemp .a).bind (fun x => x.2.lastValue)
    let s1 := updateUnit s .bayA (fun u => { u with tEndAt := some s.timeBase, tEnd := tEnd })
    let s2 := issueDrive s1 true 0 r.stand.stopRamp 0
    updateRun s2 (fun r => { r with phase := .stopping, phaseStart := s.timeBase })

/-- To take an outcome (R94): in RAMP, SETTLE or HOLD it becomes the pending outcome, an open window is closed early, and
the sequencer enters STOPPING; in STOPPING, FAULTED and IDLE it is not taken. -/
def takeOutcome (s : State) (o : RuninOutcome) : State :=
  match s.runIn.run with
  | none => s
  | some r =>
    if r.phase.supervised then
      let s1 := s.setRunIn { s.runIn with run := some { r with pending := some o }, outcomeSegment := some r.segment }
      let s2 := if r.phase = .hold then (closeWindow s1).2 else s1
      enterStopping s2
    else s

/-- HOLD entry (R86). -/
def holdEntry (s : State) : State :=
  match s.runIn.run with
  | none => s
  | some r =>
    match s.angle.state with
    | .locked _ =>
      let answer := openWindow s r.segment (r.current.bind Segment.slot)
      updateRun answer.2 (fun r => { r with phase := .hold, phaseStart := s.timeBase, acc := HoldAcc.cleared,
                                            errorStart := none, unavailable := answer.1 })
    | _ => takeOutcome s (.aborted .angle)

/-- The sequencer enters SETTLE; a settle time of 0 ends it at its start (R85). -/
def enterSettle (s : State) : State :=
  match s.runIn.run with
  | none => s
  | some r =>
    let s1 := updateRun s (fun r => { r with phase := .settle, phaseStart := s.timeBase })
    match r.current with
    | some seg => if seg.settle = 0 then holdEntry s1 else s1
    | none => s1

/-- Segment i begins (R85): its drive command, RAMP, and with a ramp time of 0 SETTLE at once. -/
def beginSegment (s : State) (i : Nat) : State :=
  match s.runIn.run with
  | none => s
  | some r =>
    match r.profile[i]? with
    | none => s
    | some seg =>
      let s1 := issueDrive s true seg.target seg.ramp seg.load
      let s2 := updateRun s1 (fun r => { r with segment := i, phase := .ramp, phaseStart := s.timeBase })
      if seg.ramp = 0 then enterSettle s2 else s2

/-- The segment summary of R87. -/
def summaryOf (r : SpinRun) (valid : Nat) : Summary :=
  { segment := r.segment,
    meanTorque := if r.acc.torqueCount = 0 then none else some (floorDiv r.acc.torqueSum r.acc.torqueCount),
    maxTorque := r.acc.maxTorque, maxOil := r.acc.maxOil, minSpeed := r.acc.minSpeed, maxSpeed := r.acc.maxSpeed,
    valid := valid, unavailable := r.unavailable }

/-- HOLD ends (R87): the window closes, the summary is appended, the next segment begins or PASS is taken. -/
def endHold (s : State) : State :=
  match s.runIn.run with
  | none => s
  | some r =>
    let closed := closeWindow s
    let s1 := updateUnit closed.2 .bayA (fun u => { u with summaries := u.summaries ++ [summaryOf r closed.1] })
    if r.segment + 1 < r.profile.length then beginSegment s1 (r.segment + 1) else takeOutcome s1 .pass

/-! ## Supervision -/

/-- The record's max torque with one more torque, clamped to 32767 (R90). -/
def takeMaxTorque (u : UnitRecord) (x : Int) : UnitRecord :=
  { u with maxTorque := maxNatOpt u.maxTorque (min 32767 x.natAbs) }

/-- A torque is taken (R90) and tested (R91). -/
def takeTorque (s : State) (r : SpinRun) (x : Int) : State :=
  let s1 := updateUnit s .bayA (fun u => takeMaxTorque u x)
  let s2 := if r.phase = .hold then
      updateRun s1 (fun r => { r with acc := { r.acc with torqueSum := r.acc.torqueSum + x,
                                                          torqueCount := r.acc.torqueCount + 1,
                                                          maxTorque := maxNatOpt r.acc.maxTorque x.natAbs } })
    else s1
  match r.current with
  | some seg => if seg.torqueLimit < x.natAbs then takeOutcome s2 (.fail .torque) else s2
  | none => s2

/-- An oil temperature is taken (R90) and tested (R91). -/
def takeOil (s : State) (r : SpinRun) (x : Int) : State :=
  let s1 := updateUnit s .bayA (fun u => { u with maxOil := maxOpt u.maxOil x })
  let s2 := if r.phase = .hold then
      updateRun s1 (fun r => { r with acc := { r.acc with maxOil := maxOpt r.acc.maxOil x } })
    else s1
  if r.variant.oilLimit < x then takeOutcome s2 (.fail .oilTemp) else s2

/-- A published value reaches the Run-in Sequencer: taken in RAMP, SETTLE and HOLD from its required channels (R90). -/
def runInValue (s : State) (p : Published) : State :=
  match s.runIn.run with
  | none => s
  | some r =>
    if r.phase.supervised then
      if p.channel = r.torqueChannel then takeTorque s r p.value
      else if p.channel = r.oilChannel then takeOil s r p.value
      else s
    else s

/-- The allowed error of R92. -/
def allowedError (tolerance : Nat) (target : Int) : Nat := max 20 (tolerance * target.natAbs / 1000)

/-- What one published shaft speed does to a HOLD in progress (R90, R92); an absent speed makes the error start
absent. -/
def SpinRun.speed (r : SpinRun) (speed : Option Int) (now : Time) : SpinRun :=
  match speed with
  | none => { r with errorStart := none }
  | some v =>
    let acc := { r.acc with minSpeed := minOpt r.acc.minSpeed v, maxSpeed := maxOpt r.acc.maxSpeed v }
    let target := match r.current with | some seg => seg.target | none => 0
    let inError := allowedError r.variant.speedTolerance target < (v - target).natAbs
    { r with acc := acc, errorStart := if inError then some (r.errorStart.getD now) else none }

/-- The Angle Unit publishes its shaft speed at a set (R90, R92). -/
def runInSpeed (s : State) (speed : Option Int) : State :=
  match s.runIn.run with
  | none => s
  | some r => if r.phase = .hold then updateRun s (fun r => r.speed speed s.timeBase) else s

/-- The Angle Unit leaves LOCKED: the speed error start becomes absent (R92). -/
def runInLostLock (s : State) : State := updateRun s (fun r => { r with errorStart := none })

/-- A stream goes STALE: ABORTED with cause STREAM if it is the angle source or carries a required channel (R93). -/
def runInStale (s : State) (i : Nat) (cfg : StreamConfig) : State :=
  match s.runIn.run with
  | none => s
  | some r =>
    if s.angleSource = some i || cfg.binds r.torqueChannel || cfg.binds r.oilChannel then
      takeOutcome s (.aborted .stream)
    else s

/-- A channel enters FAULT or loses its acquire-enable: ABORTED with cause CHANNEL if it is required (R93). -/
def runInChannelLost (s : State) (c : Nat) : State :=
  if s.requiredA c then takeOutcome s (.aborted .channel) else s

/-! ## Stopping -/

/-- The pending outcome written into the record at BAY_A (R98, R99). -/
def writeRunin (s : State) (r : SpinRun) (timedOut : Bool) : State :=
  match r.pending with
  | none => s
  | some o =>
    settleNoise (updateUnit s .bayA (fun u => { u with runin := .done o, endSegment := s.runIn.outcomeSegment,
                                                       stopTimeout := some timedOut }))
      r.profile (o = .pass)

/-- A notice about the run-in of the record at BAY_A, with its outcome and cause. -/
def raiseRunin (s : State) (src : Source) (r : SpinRun) : State :=
  match r.pending with
  | none => s
  | some o => raise s src (some .a) (s.serialAt .bayA) (.runin o)

/-- Standstill ends STOPPING (R98). -/
def endStopping (s : State) (r : SpinRun) : State :=
  let s1 := if r.written then s else writeRunin s r false
  let s2 := issueDrive (raiseRunin s1 .runinEnd r) false 0 0 0
  s2.setRunIn { s2.runIn with run := none }

/-- A set that the Angle Unit has handled: in STOPPING, standstill at least 100 ms after the phase start ends it (R98). -/
def runInStandstill (s : State) : State :=
  match s.runIn.run with
  | none => s
  | some r =>
    if r.phase = .stopping ∧ 100 ≤ elapsed s.timeBase r.phaseStart ∧ s.angle.standstill then endStopping s r else s

/-- The stop timeout (R99): the outcome written, the final command issued, STOP_TIMEOUT raised, FAULTED. -/
def stopTimedOut (s : State) (r : SpinRun) : State :=
  let s1 := if r.written then s else writeRunin s r true
  let s2 := raiseRunin (issueDrive s1 false 0 0 0) .stopTimeout r
  updateRun s2 (fun r => { r with written := true, phase := .faulted })

/-! ## The timers' conditions -/

/-- A timer of the present run has run for at least `limit r` in a phase (R85, R87, R99). -/
def State.spinDue (s : State) (phase : SpinPhase) (limit : SpinRun → Option Nat) : Bool :=
  match s.runIn.run with
  | none => false
  | some r =>
    match limit r with
    | none => false
    | some n => r.phase = phase && decide (n ≤ elapsed s.timeBase r.phaseStart)

/-- RAMP has lasted the ramp time (R85). -/
def State.rampDue (s : State) : Bool := s.spinDue .ramp (fun r => r.current.map Segment.ramp)

/-- SETTLE has lasted the settle time (R85). -/
def State.settleDue (s : State) : Bool := s.spinDue .settle (fun r => r.current.map Segment.settle)

/-- HOLD has lasted the hold time (R87). -/
def State.holdDue (s : State) : Bool := s.spinDue .hold (fun r => r.current.map Segment.hold)

/-- STOPPING has lasted the stop timeout (R99). -/
def State.stopDue (s : State) : Bool := s.spinDue .stopping (fun r => some r.stand.stopTimeout)

/-- In HOLD, the speed error has lasted the speed persist (R92). -/
def State.persistDue (s : State) : Bool :=
  match s.runIn.run with
  | none => false
  | some r =>
    match r.errorStart with
    | none => false
    | some start => r.phase = .hold && decide (r.variant.speedPersist ≤ elapsed s.timeBase start)

/-- The refresh period has passed since the last issue, in RAMP, SETTLE, HOLD or STOPPING, and no station reset holds
drive commands back (R89, R169). -/
def State.driveRefreshDue (s : State) : Bool :=
  match s.runIn.run, s.runIn.refreshStart with
  | some r, some start =>
    r.phase != .faulted && !s.driveHeldBack && decide (r.stand.refresh ≤ elapsed s.timeBase start)
  | _, _ => false

end Sys2Proof.Machine
end

