-- ==== Sys2Proof/Machine/Jobs.lean ====
section
/-! DEFINITION. The requests to the two sequencers (R83, R84, R95, R100, R122, R123, R135, R138) and the guard line
(R96). -/

namespace Sys2Proof.Machine

/-! ## Run-in -/

/-- What START_SPIN fixes for the run-in (R84). -/
structure SpinStart where
  torqueChannel : Nat
  oilChannel : Nat
  stand : Stand
  variant : Variant
  profile : List Segment
  deriving DecidableEq, Repr

/-- START_SPIN's checks, in their order (R83): what it fixes, or the refusal. -/
def startSpinCheck (s : State) : Except Code SpinStart :=
  match s.unitAt .bayA with
  | none => .error .bayEmpty
  | some u =>
    if s.runIn.run.isSome then .error .active
    else if u.runin ≠ .notRun then .error .wrongState
    else if s.runIn.guardAsserted then .error .guardOpen
    else
      match s.stand, s.select .torque .a, s.select .oilTemp .a, s.angle.state with
      | _, _, _, .fault _ => .error .notReady
      | some st, some torque, some oil, _ =>
        (match s.variantAtA with
         | none => .error .noVariant
         | some v =>
           match s.profile v.profile with
           | none => .error .noVariant
           | some segments =>
             .ok { torqueChannel := torque.1, oilChannel := oil.1, stand := st, variant := v, profile := segments })
      | _, _, _, _ => .error .notReady

/-- The run at its acceptance, before segment 0 begins (R84). -/
def SpinStart.run (x : SpinStart) (now : Time) : SpinRun :=
  { phase := .ramp, segment := 0, phaseStart := now, pending := none, written := false,
    torqueChannel := x.torqueChannel, oilChannel := x.oilChannel, stand := x.stand, variant := x.variant,
    profile := x.profile, errorStart := none, acc := HoldAcc.cleared, unavailable := false }

/-- START_SPIN (R83, R84). -/
def startSpin (s : State) : State × Answer :=
  match startSpinCheck s with
  | .error c => refuse s c
  | .ok x =>
    let s1 := updateUnit s .bayA (fun u => { u with runin := .running })
    accept (beginSegment (s1.setRunIn { s1.runIn with run := some (x.run s.timeBase) }) 0)

/-- ABORT_SPIN (R95). -/
def abortSpin (s : State) : State × Answer :=
  match s.runIn.run with
  | none => refuse s .notActive
  | some _ => accept (takeOutcome s (.aborted .request))

/-- CLEAR_FAULT with bay A (R100). -/
def clearFaultA (s : State) : State × Answer :=
  match s.runIn.run with
  | none => refuse s .notActive
  | some r =>
    if r.phase = .faulted then
      accept (issueDrive (updateRun s (fun r => { r with phase := .stopping, phaseStart := s.timeBase })) true 0
        r.stand.stopRamp 0)
    else refuse s .notActive

/-! ## The guard line (R96) -/

/-- The guard time written at an assertion outside IDLE, if it is still absent (R96). -/
def writeGuardTime (s : State) : State :=
  match s.runIn.run with
  | none => s
  | some _ => updateUnit s .bayA (fun u => { u with guardTime := some (u.guardTime.getD s.timeBase) })

/-- The guard line changes to the given level (R96). -/
def guardEdge (s : State) (asserted : Bool) : State :=
  let s1 := s.setRunIn { s.runIn with guardAsserted := asserted }
  let s2 := raise s1 .guard (some .a) (s1.serialAt .bayA) (.edge asserted s.timeBase)
  if asserted then takeOutcome (writeGuardTime s2) (.aborted .guard) else s2

/-! ## Leak test -/

/-- The record's leak does not allow the start (R122). -/
def leakBars (leak : LeakStatus) (retests limit : Nat) : Bool :=
  match leak with
  | .running | .done .pass => true
  | .done (.fail _) => decide (limit ≤ retests)
  | .notRun | .done (.aborted _) => false

/-- START_LEAK's checks, in their order (R122): the required channel, the stand record and the variant, or the
refusal. -/
def startLeakCheck (s : State) : Except Code (Nat × Stand × Variant) :=
  match s.unitAt .bayB with
  | none => .error .bayEmpty
  | some u =>
    if s.leak.run.isSome then .error .active
    else
      match s.lookup u.variantId with
      | none => .error .noVariant
      | some (_, v, _) =>
        if leakBars u.leak u.retests v.retestLimit then .error .wrongState
        else
          match s.stand, s.select .pressure .b with
          | some st, some ch => .ok (ch.1, st, v)
          | _, _ => .error .notReady

/-- The record at BAY_B as a test starts (R69, R123). -/
def UnitRecord.leakStarted (u : UnitRecord) : UnitRecord :=
  { u with leak := .running, leakResult := none,
           retests := match u.leak with | .done (.fail _) => u.retests + 1 | _ => u.retests }

/-- The test at its acceptance, in FILL (R123, R127). -/
def leakRunOf (channel : Nat) (st : Stand) (v : Variant) (now : Time) : LeakRun :=
  { phase := .fill, phaseStart := now, channel := channel, stand := st, variant := v, tMs := none, ambient := none,
    first := [], recent := [], pending := none, result := none, written := false }

/-- START_LEAK (R122, R123, R127). -/
def startLeak (s : State) : State × Answer :=
  match startLeakCheck s with
  | .error c => refuse s c
  | .ok (channel, st, v) =>
    let s1 := updateUnit s .bayB UnitRecord.leakStarted
    let s2 := s1.setLeak { s1.leak with run := some (leakRunOf channel st v s.timeBase), count := 0,
                                        suppressed := false }
    accept (issueValve s2 .fill)

/-- ABORT_LEAK (R135). -/
def abortLeak (s : State) : State × Answer :=
  match s.leak.run with
  | none => refuse s .notActive
  | some _ => accept (takeLeakOutcome s (.aborted .request) none)

/-- CLEAR_FAULT with bay B (R138). -/
def clearFaultB (s : State) : State × Answer :=
  match s.leak.run with
  | none => refuse s .notActive
  | some r =>
    if r.phase = .faulted then
      let s1 := updateUnit s .bayB (fun u => { u with leak := .running, leakResult := none })
      accept (issueValve (updateTest s1 (fun r => { r with phase := .vent, phaseStart := s.timeBase,
                                                            written := false })) .vent)
    else refuse s .notActive

end Sys2Proof.Machine
end

