-- ==== Sys2Proof/Machine/AngleUnit.lean ====
section
/-! DEFINITION. The Angle Unit: standstill, lock, slips, boundaries, angle and speed (spec/03_shaft_angle_and_speed.md,
R36 to R49). -/

namespace Sys2Proof.Machine

/-! ## Standstill (R46) -/

/-- The largest minus the smallest of a list of differences; 0 of an empty list. -/
def spanOf (xs : List Int) : Int := xs.foldl max (xs.headD 0) - xs.foldl min (xs.headD 0)

/-- The positions in the window stand within the standstill window, as signed differences from the newest (R46). -/
def still (window : Nat) (newest : Pos) (history : List (Time × Pos)) : Bool :=
  decide (spanOf (history.map (fun h => signedDiff h.2 newest)) ≤ window)

/-- Standstill detection takes a position (R46). -/
def Angle.detect (u : Angle) (window : Nat) (now : Time) (pos : Pos) : Angle :=
  let history := (u.history ++ [(now, pos)]).filter (fun h => decide (elapsed now h.1 ≤ 100))
  let start := u.historyStart.getD now
  { u with history := history, historyStart := some start,
           standstill := decide (100 ≤ elapsed now start) && still window pos history }

/-- The history is cleared, and the flag with it (R46). -/
def Angle.forgotten (u : Angle) : Angle := { u with standstill := false, history := [], historyStart := none }

/-! ## One set in LOCKED -/

/-- What the capture and position steps did to the revolution in progress. -/
inductive Turn where
  /-- nothing -/
  | none
  /-- closed at this set with this end kind (R39, R40, R42) -/
  | closed (kind : PointKind)
  /-- a slip: discarded, a new one beginning at this set with this start kind (R39, R40) -/
  | slipped (kind : PointKind)
  deriving DecidableEq, Repr

/-- The direction of a signed difference. -/
def directionOf (d : Int) : Direction := if 0 ≤ d then .forward else .reverse

/-- The capture step (R39). -/
def captureStep (st : Stand) (t : Track) (capture : Pos) : Track × Turn :=
  let d := signedDiff capture t.reference
  if st.cpr ≤ d.natAbs + st.tolerance ∧ d.natAbs ≤ st.cpr + st.tolerance then
    ({ t with reference := capture, direction := directionOf d, carried := false, consecutive := 0, moved := true },
     .closed .capture)
  else
    ({ t with reference := capture, carried := false, consecutive := t.consecutive + 1, moved := true },
     .slipped .capture)

/-- The reference moved by `n` in a direction. -/
def moveBy (reference : Pos) (dir : Direction) (n : Nat) : Pos :=
  match dir with
  | .forward => reference + BitVec.ofNat 32 n
  | .reverse => reference - BitVec.ofNat 32 n

/-- The position step in INDEX mode (R40). -/
def indexStep (st : Stand) (t : Track) (pos : Pos) : Track × Turn :=
  let e := signedDiff pos t.reference
  if e.natAbs ≤ st.cpr + st.tolerance then (t, .none)
  else
    let moved := { t with reference := moveBy t.reference (directionOf e) st.cpr, direction := directionOf e,
                          moved := true }
    if t.carried then (moved, .closed .threshold)
    else ({ moved with carried := true, consecutive := t.consecutive + 1 }, .slipped .threshold)

/-- The position step in WRAP mode (R42): the reference moves by whole multiples of CPR in one direction until the
position lies less than CPR from it. -/
def wrapStep (st : Stand) (t : Track) (pos : Pos) : Track × Turn :=
  let e := signedDiff pos t.reference
  if e.natAbs < st.cpr then (t, .none)
  else
    ({ t with reference := moveBy t.reference (directionOf e) (e.natAbs / st.cpr * st.cpr), direction := directionOf e,
              moved := true }, .closed .threshold)

/-- The slips that one step of this outcome counts. -/
def Turn.slips : Turn → Nat
  | .slipped _ => 1
  | _ => 0

/-- The capture step and the position step of a set in LOCKED (R38), and how many slips they count.  A third consecutive
slip at the capture step ends the handling there (R41).  Where both steps act, the set still passes one event, and the
slip of the position step is it: a discarded revolution passes no boundary (R44, R47; DEDUCED, notes/assumptions/8.md). -/
def moveSteps (st : Stand) (t : Track) (pos : Pos) (capture : Option Pos) : Track × Turn × Nat :=
  match st.mode with
  | .wrap =>
    let w := wrapStep st t pos
    (w.1, w.2, 0)
  | .index =>
    let c := match capture with | some c => captureStep st t c | none => (t, Turn.none)
    if c.1.consecutive = 3 then (c.1, c.2, c.2.slips)
    else
      let p := indexStep st c.1 pos
      (p.1, if p.2 = .none then c.2 else p.2, c.2.slips + p.2.slips)

/-- The angle step (R43). -/
def angleStep (st : Stand) (t : Track) (pos : Pos) : Track :=
  let dir := if t.moved then t.direction else directionOf (signedDiff pos t.reference)
  let p := match dir with
    | .forward => (pos - t.reference).toNat % st.cpr
    | .reverse => (t.reference - pos).toNat % st.cpr
  { t with direction := dir, angle16 := some (p * 65536 / st.cpr) }

/-- floor(240 × fs / n) with the sign of a direction (R44). -/
def revolutionSpeed (fs n : Nat) (dir : Direction) : Int :=
  let magnitude : Nat := 240 * fs / n
  match dir with
  | .forward => magnitude
  | .reverse => -(magnitude : Int)

/-- The counting step (R44): the track after it, and the boundary event it passes. -/
def countingStep (fs : Nat) (t : Track) (turn : Turn) : Track × Option Boundary :=
  match turn with
  | .none => ({ t with current := satSucc 4294967295 t.current }, none)
  | .slipped kind => ({ t with current := 1, startKind := kind }, none)
  | .closed kind =>
    let n := t.current
    let speed := if t.startKind = kind then some (revolutionSpeed fs n t.direction) else none
    let revolutions := t.revolutions + 1
    ({ t with last := some n, revolutions := revolutions, revSpeed := if speed.isSome then speed else t.revSpeed,
              startKind := kind, current := 1 },
     some { revolutions := revolutions, count := n, speed := speed, direction := t.direction })

/-- The shaft speed after the counting step (R45). -/
def shaftSpeedOf (fs : Nat) (t : Track) : Option Int :=
  match t.revSpeed with
  | none => none
  | some v =>
    let magnitude : Nat := min v.natAbs (240 * fs / t.current)
    some (match t.direction with | .forward => (magnitude : Int) | .reverse => -(magnitude : Int))

/-- The unit locks (R38). -/
def Track.locked (mode : AngleMode) (reference : Pos) : Track :=
  { reference := reference, carried := false, direction := .forward, moved := false, revolutions := 0, current := 0,
    last := none, startKind := (match mode with | .index => .capture | .wrap => .threshold), revSpeed := none,
    shaftSpeed := none, angle16 := none, consecutive := 0 }

/-- The rest of a set in LOCKED from the angle step on (R43 to R47): the event, the shaft speed, the angle record. -/
def finishSet (s : State) (st : Stand) (fs : Nat) (t : Track) (turn : Turn) (pos : Pos) (filled : Bool)
    (values : List Published) : State :=
  let counted := countingStep fs (angleStep st t pos) turn
  let t' := { counted.1 with shaftSpeed := shaftSpeedOf fs counted.1 }
  let s1 := s.setAngle { s.angle with state := .locked t' }
  let s2 := match counted.2 with
    | some e => engineBoundary s1 e
    | none => (match turn with | .slipped _ => engineBreak s1 | _ => s1)
  engineRecord (runInSpeed s2 t'.shaftSpeed)
    { angle16 := t'.angle16.getD 0, filled := filled, direction := t'.direction } values

/-- The third consecutive slip (R41): the slip event, FAULT, ANGLE_FAULT, and the Run-in Sequencer is told. -/
def angleFaults (s : State) (st : Stand) (t : Track) : State :=
  let s1 := engineBreak s
  let s2 := s1.setAngle { s1.angle with state := .fault t }
  let s3 := raise s2 .angleFault (some .a) (s2.serialAt .bayA) (.number st.angleSource)
  takeOutcome (runInLostLock s3) (.aborted .angle)

/-- Handling by state, after standstill detection (R38). -/
def followSet (s : State) (st : Stand) (fs : Nat) (pos : Pos) (capture : Option Pos) (filled : Bool)
    (values : List Published) : State :=
  match s.angle.state with
  | .fault _ => s
  | .noReference =>
    (match st.mode, capture with
     | .index, none => s
     | .index, some c => finishSet s st fs (Track.locked .index c) .none pos filled values
     | .wrap, _ => finishSet s st fs (Track.locked .wrap pos) .none pos filled values)
  | .locked t =>
    let moved := moveSteps st t pos capture
    let s1 := s.setAngle { s.angle with totalSlips := Nat.repeat sat16 moved.2.2 s.angle.totalSlips }
    if moved.1.consecutive = 3 then angleFaults s1 st moved.1
    else finishSet s1 st fs moved.1 moved.2.1 pos filled values

/-- One set reaches the Angle Unit (R38), with what the channels published from it; at its end the Run-in Sequencer sees
whether the shaft stands still (R98). -/
def angleSet (s : State) (pos : Pos) (capture : Option Pos) (filled : Bool) (values : List Published) : State :=
  match s.stand, s.source with
  | some st, some cfg =>
    let s1 := s.setAngle (s.angle.detect st.standstillWindow s.timeBase pos)
    runInStandstill (followSet s1 st cfg.fs pos capture filled values)
  | _, _ => s

/-! ## Losing the reference (R48, R49) -/

/-- A gap, a stale source or new angle fields: LOCKED becomes NO_REFERENCE, and the Run-in Sequencer's speed error start
becomes absent (R48, R92). -/
def loseReference (s : State) : State :=
  match s.angle.state with
  | .locked _ => runInLostLock (s.setAngle { s.angle with state := .noReference })
  | _ => s

/-- The position history is cleared (R46). -/
def clearHistory (s : State) : State := s.setAngle s.angle.forgotten

/-- CLEAR_ANGLE (R49). -/
def clearAngle (s : State) : State × Answer :=
  match s.angle.state with
  | .fault _ => accept (s.setAngle { s.angle with state := .noReference })
  | _ => refuse s .notActive

end Sys2Proof.Machine
end

