-- ==== Sys2Proof/Machine/Tables.lean ====
section
/-! DEFINITION. The Table Memory: BIND, the loads and the swap (spec/04_tables_stand_variants_profiles_and_order_sets.md,
R51 to R64). -/

namespace Sys2Proof.Machine

/-- The five sizes lie in their ranges (R51). -/
def Sizes.inRange (z : Sizes) : Bool :=
  decide (1 ≤ z.v ∧ z.v ≤ 64 ∧ 1 ≤ z.p ∧ z.p ≤ 16 ∧ 1 ≤ z.s ∧ z.s ≤ 32 ∧ 1 ≤ z.o ∧ z.o ≤ 8 ∧ 1 ≤ z.k ∧ z.k ≤ 16)

/-- The cost in words (R51). -/
def Sizes.cost (z : Sizes) : Nat := 16 * z.v + z.p * (2 + 4 * z.s) + 2 * z.o * (4 + 10 * z.k)

/-- The tables at BIND: every slot empty, both copies unloaded, statistics zero (R51). -/
def Tables.empty (z : Sizes) : Tables :=
  { sizes := z, variants := List.replicate z.v { record := none, stats := Stats.zero },
    profiles := List.replicate z.p none,
    orderSets := List.replicate z.o { active := none, shadow := none, swapPending := false } }

/-- BIND (R51). -/
def bindTables (z : Sizes) (s : State) : State × Answer :=
  if s.tables.isSome then refuse s .alreadyBound
  else if !z.inRange then refuse s .badValue
  else if 4096 < z.cost then refuse s .noSpace
  else accept (s.setTables (some (Tables.empty z)))

/-- The four angle fields of two stand records are equal (section 3.1). -/
def Stand.sameAngle (x y : Stand) : Bool :=
  x.angleSource = y.angleSource && x.cpr = y.cpr && x.mode = y.mode && x.tolerance = y.tolerance

/-- What the Angle Unit does at a LOAD_STAND (R48, R55). -/
def angleFieldsChange (s : State) (new : Stand) : State :=
  match s.stand with
  | none => s
  | some old =>
    let s1 := if old.sameAngle new then s else loseReference s
    if old.angleSource = new.angleSource then s1 else clearHistory s1

/-- LOAD_STAND (R54, R55).  Where both of R54's refusals apply, BAD_VALUE answers (DESIGN CHOICE,
notes/assumptions/36.md: R54 gives them no order). -/
def loadStand (record : Option Stand) (s : State) : State × Answer :=
  match record with
  | none => refuse s .badValue
  | some st =>
    if st.driveNode = s.ring.node ∨ st.valveNode = s.ring.node then refuse s .badValue
    else if s.runIn.run.isSome || s.leak.run.isSome then refuse s .inUse
    else accept ((angleFieldsChange s st).setStand (some st))

/-- Another loaded slot holds a variant id (R56). -/
def idTaken (id slot : Nat) (variants : List VariantSlot) : Bool :=
  (List.range variants.length).any (fun j => j != slot &&
    match (variants[j]?).bind VariantSlot.record with
    | some v => v.id = id
    | none => false)

/-- LOAD_VARIANT (R56). -/
def loadVariant (slot : Nat) (record : Option Variant) (s : State) : State × Answer :=
  match s.tables with
  | none => refuse s .notBound
  | some t =>
    match record, t.variants[slot]? with
    | some v, some old =>
      if t.sizes.p ≤ v.profile then refuse s .badValue
      else if (match old.record with
               | some o => s.units.any (fun u => u.variantId = o.id)
               | none => false) then refuse s .inUse
      else if idTaken v.id slot t.variants then refuse s .badValue
      else accept (s.setTables (some { t with
        variants := modifyAt (fun _ => { record := some v, stats := Stats.zero }) t.variants slot }))
    | _, _ => refuse s .badValue

/-- A segment's analysis slot lies in the partition (R58). -/
def Segment.slotBelow (seg : Segment) (o : Nat) : Bool := seg.slot.all (fun n => decide (n < o))

/-- The profile of the run-in in progress: that of the variant of the record at BAY_A, outside IDLE (R58). -/
def State.profileInUse (s : State) (p : Nat) : Bool :=
  s.runIn.run.isSome &&
    (match s.variantAtA with
     | some v => v.profile = p
     | none => false)

/-- LOAD_PROFILE (R58). -/
def loadProfile (p : Nat) (segments : Option (List Segment)) (s : State) : State × Answer :=
  match s.tables with
  | none => refuse s .notBound
  | some t =>
    match segments with
    | none => refuse s .badValue
    | some segs =>
      if t.sizes.p ≤ p ∨ segs.length = 0 ∨ t.sizes.s < segs.length ∨
          segs.all (fun seg => seg.slotBelow t.sizes.o) = false then refuse s .badValue
      else if s.profileInUse p then refuse s .inUse
      else accept (s.setTables (some { t with profiles := modifyAt (fun _ => some segs) t.profiles p }))

/-- LOAD_ORDER_SET (R60). -/
def loadOrderSet (slot : Nat) (set : Option OrderSet) (s : State) : State × Answer :=
  match s.tables with
  | none => refuse s .notBound
  | some t =>
    match set with
    | none => refuse s .badValue
    | some set =>
      if t.sizes.o ≤ slot ∨ t.sizes.k < set.orders.length then refuse s .badValue
      else accept (updateSlot s slot (fun o => { o with shadow := some set }))

/-- SWAP_ORDER_SET (R62). -/
def swapOrderSet (slot : Nat) (s : State) : State × Answer :=
  match s.tables with
  | none => refuse s .notBound
  | some t =>
    match t.orderSets[slot]? with
    | none => refuse s .badValue
    | some o =>
      if o.shadow.isNone then refuse s .notFound
      else if s.inWindow slot then accept (updateSlot s slot (fun o => { o with swapPending := true }))
      else accept (carryOutSwap s slot none none)

end Sys2Proof.Machine
end

