-- ==== Sys2Proof/Machine/Units.lean ====
section
/-! DEFINITION. The Unit List, verdicts, statistics and reports (spec/05_units_on_the_line.md, R70 to R77;
spec/09_verdicts_reports_and_variant_statistics.md, R140 to R149). -/

namespace Sys2Proof.Machine

/-! ## Admitting and moving (R70 to R73) -/

/-- Printable ASCII, not all spaces, 16 characters (R70). -/
def serialAllowed (serial : Serial) : Bool :=
  (serial.all fun b => decide (0x20 ≤ b.toNat ∧ b.toNat ≤ 0x7E)) && serial.any (fun b => b != 0x20)

/-- The record that ADMIT appends (R71). -/
def UnitRecord.admitted (serial : Serial) (variant : Nat) (now : Time) : UnitRecord :=
  { serial := serial, variantId := variant, position := .bayA, admittedAt := now, runin := .notRun, endSegment := none,
    stopTimeout := none, noise := .notRun, leak := .notRun, retests := 0, tEnd := none, tEndAt := none,
    maxTorque := none, maxOil := none, guardTime := none, summaries := [], findings := [], truncated := false,
    leakResult := none }

/-- ADMIT (R70, R71). -/
def admitUnit (serial : Serial) (variant : Nat) (s : State) : State × Answer :=
  if s.tables.isNone then refuse s .notBound
  else if !serialAllowed serial then refuse s .badValue
  else if (s.unitAt .bayA).isSome then refuse s .bayOccupied
  else if 6 ≤ s.units.length then refuse s .lineFull
  else
    match s.lookup variant with
    | none => refuse s .noVariant
    | some (_, _, stats) =>
      if stats.held then refuse s .variantHeld
      else if s.units.any (fun u => u.serial = serial) then refuse s .duplicateSerial
      else accept (s.setUnits (s.units ++ [UnitRecord.admitted serial variant s.timeBase]))

/-- ADVANCE A (R72). -/
def advanceA (s : State) : State × Answer :=
  if (s.unitAt .bayA).isNone then refuse s .bayEmpty
  else if s.runIn.run.isSome then refuse s .active
  else accept (updateUnit s .bayA (fun u => { u with position := .transfer }))

/-- The first TRANSFER record of the list placed at BAY_B; every other keeps its position (R73). -/
def moveFirst : List UnitRecord → List UnitRecord
  | [] => []
  | u :: rest => if u.position = .transfer then { u with position := .bayB } :: rest else u :: moveFirst rest

/-- The Leak Sequencer is FAULTED. -/
def State.leakFaulted (s : State) : Bool :=
  match s.leak.run with
  | some r => r.phase = .faulted
  | none => false

/-- ADVANCE B (R73). -/
def advanceB (s : State) : State × Answer :=
  if s.countAt .transfer = 0 then refuse s .bayEmpty
  else if s.leakFaulted then refuse s .active
  else if (s.unitAt .bayB).isSome then refuse s .bayOccupied
  else accept (s.setUnits (moveFirst s.units))

/-! ## Verdicts (R140) -/

/-- The checks whose result is FAIL. -/
def UnitRecord.failed (u : UnitRecord) : Checks :=
  { runin := match u.runin with | .done (.fail _) => true | _ => false,
    noise := u.noise = .fail,
    leak := match u.leak with | .done (.fail _) => true | _ => false }

/-- The checks whose result is PASS. -/
def UnitRecord.passed (u : UnitRecord) : Checks :=
  { runin := u.runin = .done .pass, noise := u.noise = .pass, leak := u.leak = .done .pass }

/-- The required checks that are incomplete (R140). -/
def UnitRecord.incomplete (u : UnitRecord) (required : Checks) : Checks :=
  { runin := required.runin && (match u.runin with | .notRun | .done (.aborted _) => true | _ => false),
    noise := required.noise && (match u.noise with | .notRun | .noResult => true | _ => false),
    leak := required.leak && (match u.leak with | .notRun | .done (.aborted _) => true | _ => false) }

/-- A set of checks names one at least. -/
def Checks.any (c : Checks) : Bool := c.runin || c.noise || c.leak

/-- Verdict and basis of a RELEASE (R140). -/
def verdictOf (u : UnitRecord) (required : Checks) : Verdict × Checks :=
  if u.failed.any then (.reject, u.failed)
  else if (u.incomplete required).any then (.incomplete, u.incomplete required)
  else (.accept, Checks.empty)

/-! ## Statistics (R143 to R145) -/

/-- The counts at a RELEASE (R143). -/
def Stats.counted (t : Stats) (v : Verdict) : Stats :=
  if t.tested < 4294967295 then
    { t with tested := t.tested + 1,
             accepted := if v = .accept then t.accepted + 1 else t.accepted,
             rejected := if v = .reject then t.rejected + 1 else t.rejected,
             incomplete := if v = .incomplete then t.incomplete + 1 else t.incomplete }
  else { t with frozen := true }

/-- One consecutive-reject counter at a RELEASE (R144). -/
def rejectCounter (threshold : Nat) (failed passed : Bool) (n : Nat) : Nat :=
  if failed then (if threshold = 0 then n else n + 1) else if passed then 0 else n

/-- The three counters at a RELEASE; a held slot's stay (R144). -/
def Stats.watched (t : Stats) (threshold : Nat) (u : UnitRecord) : Stats :=
  if t.held then t
  else { t with runinRejects := rejectCounter threshold u.failed.runin u.passed.runin t.runinRejects,
                noiseRejects := rejectCounter threshold u.failed.noise u.passed.noise t.noiseRejects,
                leakRejects := rejectCounter threshold u.failed.leak u.passed.leak t.leakRejects }

/-- The checks whose counters equal the threshold (R145). -/
def Stats.atThreshold (t : Stats) (threshold : Nat) : Checks :=
  { runin := t.runinRejects = threshold, noise := t.noiseRejects = threshold, leak := t.leakRejects = threshold }

/-- The hold that a RELEASE sets (R145), and whether it set one. -/
def Stats.holding (t : Stats) (threshold : Nat) : Stats × Bool :=
  if !t.held && threshold != 0 && (t.atThreshold threshold).any then
    ({ t with held := true, holdChecks := t.atThreshold threshold }, true)
  else (t, false)

/-- A variant slot's statistics after a RELEASE, and whether it set a hold (R143 to R145). -/
def Stats.released (t : Stats) (threshold : Nat) (v : Verdict) (u : UnitRecord) : Stats × Bool :=
  ((t.counted v).watched threshold u).holding threshold

/-- The statistics of one variant slot replaced. -/
def setStats (s : State) (slot : Nat) (stats : Stats) : State :=
  match s.tables with
  | none => s
  | some t =>
    s.setTables (some { t with variants := modifyAt (fun x => { x with stats := stats }) t.variants slot })

/-- The statistics at the RELEASE of a unit (R143 to R145), VARIANT_HELD raised when a hold is set. -/
def releaseStats (s : State) (u : UnitRecord) (v : Verdict) : State :=
  match s.lookup u.variantId with
  | none => s
  | some (slot, variant, stats) =>
    let new := stats.released variant.holdThreshold v u
    let s1 := setStats s slot new.1
    if new.2 then raise s1 .variantHeld (some .b) (some u.serial) (.held variant.id slot new.1.holdChecks) else s1

/-! ## Closing a unit (R74 to R77, R149) -/

/-- The required checks of a record's variant. -/
def State.requiredOf (s : State) (u : UnitRecord) : Checks :=
  match s.lookup u.variantId with
  | some (_, v, _) => v.required
  | none => Checks.empty

/-- The report of a record (R149) appended to the Report Queue. -/
def formReport (s : State) (u : UnitRecord) (v : Verdict) (basis required : Checks) : State :=
  s.setReports
    { s.reports with
      reports := s.reports.reports ++
        [{ number := s.reports.next, verdict := v, basis := basis, required := required, unit := u }],
      next := (s.reports.next + 1) % 65536 }

/-- The record removed, those behind it closing up, and UNIT_CLOSED raised (R75, R77). -/
def removeUnit (s : State) (u : UnitRecord) (bay : Option Bay) (v : Verdict) : State :=
  raise (s.setUnits (s.units.filter (fun x => x.serial != u.serial))) .unitClosed bay (some u.serial) (.verdict v)

/-- RELEASE (R74, R75). -/
def release (s : State) : State × Answer :=
  match s.unitAt .bayB with
  | none => refuse s .bayEmpty
  | some u =>
    if s.leak.run.isSome then refuse s .active
    else if 4 ≤ s.reports.reports.length then refuse s .reportQueueFull
    else
      let required := s.requiredOf u
      let verdict := verdictOf u required
      accept (removeUnit (formReport (releaseStats s u verdict.1) u verdict.1 verdict.2 required) u (some .b) verdict.1)

/-- The bay of a position; none for TRANSFER. -/
def Position.bay : Position → Option Bay
  | .bayA => some .a
  | .transfer => none
  | .bayB => some .b

/-- A job works on a record at a position (R76). -/
def State.jobAt (s : State) (p : Position) : Bool :=
  match p with
  | .bayA => s.runIn.run.isSome
  | .transfer => false
  | .bayB => s.leak.run.isSome

/-- WITHDRAW (R76, R77). -/
def withdraw (serial : Serial) (s : State) : State × Answer :=
  match s.units.find? (fun u => u.serial = serial) with
  | none => refuse s .notFound
  | some u =>
    if s.jobAt u.position then refuse s .active
    else if 4 ≤ s.reports.reports.length then refuse s .reportQueueFull
    else accept (removeUnit (formReport s u .withdrawn Checks.empty (s.requiredOf u)) u u.position.bay .withdrawn)

/-! ## Requests on statistics (R146, R147) -/

/-- A request on the statistics of a loaded slot, with the refusals of R146 and R147. -/
def onStats (slot : Nat) (f : Stats → Stats) (s : State) : State × Answer :=
  match s.tables with
  | none => refuse s .notBound
  | some t =>
    match t.variants[slot]? with
    | none => refuse s .badValue
    | some x => if x.record.isNone then refuse s .notFound else accept (setStats s slot (f x.stats))

/-- The statistics after RELEASE_VARIANT (R146). -/
def Stats.unheld (t : Stats) : Stats :=
  { t with runinRejects := 0, noiseRejects := 0, leakRejects := 0, held := false, holdChecks := Checks.empty }

/-- RELEASE_VARIANT (R146). -/
def releaseVariant (slot : Nat) (s : State) : State × Answer := onStats slot Stats.unheld s

/-- CLEAR_STATS (R147). -/
def clearStats (slot : Nat) (s : State) : State × Answer := onStats slot (fun _ => Stats.zero) s

end Sys2Proof.Machine
end

