-- ==== Sys2Proof/Machine/Replies.lean ====
section
/-! DEFINITION. The content of the replies to the READ requests, by the encoding of R176 (R35, R50, R66, R79, R80, R148,
R168).

Where a reply says whether something is loaded, bound or present and then carries it only if it is, that byte is the
presence byte of what follows; a "none" among 1-byte numbers is 0xFF; every other optional field has a presence byte
(notes/assumptions/10.md). -/

namespace Sys2Proof.Machine

/-! ## Records as fields -/

def Disposition.code : Disposition → Nat
  | .forward => 0
  | .absorb => 1

def Role.code : Role → Nat
  | .vibration => 0 | .sound => 1 | .torque => 2 | .oilTemp => 3 | .pressure => 4 | .ambientTemp => 5

def FaultKind.code : FaultKind → Nat
  | .flat => 0
  | .range => 1

def ChannelStatus.code : ChannelStatus → Nat
  | .disabled => 0 | .waiting => 1 | .ok => 2 | .held => 3 | .stale => 4 | .fault _ => 5

/-- The fault kind, present in FAULT. -/
def ChannelStatus.faultKind : ChannelStatus → Option FaultKind
  | .fault k => some k
  | _ => none

def StreamState.code : StreamState → Nat
  | .waiting => 0
  | .live => 1
  | .stale => 2

def AngleMode.code : AngleMode → Nat
  | .index => 0
  | .wrap => 1

def Direction.code : Direction → Nat
  | .forward => 0
  | .reverse => 1

def PointKind.code : PointKind → Nat
  | .capture => 0
  | .threshold => 1

def OrderBase.code : OrderBase → Nat
  | .shaft => 0 | .mesh => 1 | .wheel => 2 | .direct => 3

def Position.code : Position → Nat
  | .bayA => 0
  | .transfer => 1
  | .bayB => 2

def SpinPhase.code : SpinPhase → Nat
  | .ramp => 1 | .settle => 2 | .hold => 3 | .stopping => 4 | .faulted => 5

def LeakPhase.code : LeakPhase → Nat
  | .fill => 1 | .settle => 2 | .measure => 3 | .vent => 4 | .faulted => 5

def PortState.code : PortState → Nat
  | .bypass => 0
  | .down => 1
  | .up => 2

/-- The fields of section 2.1. -/
def StreamConfig.bytes (c : StreamConfig) : List Byte :=
  encBool c.enable ++ enc1 c.source ++ enc1 c.number ++ enc1 c.count ++ encBool c.hasPosition ++ encBool c.hasIndex ++
    enc2 c.fs ++ enc1 c.stale ++ enc1 c.disposition.code ++ encList encNone c.binding

/-- The fields of section 2.5. -/
def ChannelConfig.bytes (c : ChannelConfig) : List Byte :=
  enc1 c.role.code ++ enc1 (bayCode c.bay) ++ encS4 c.gain ++ encS4 c.offset ++ enc2 c.clip ++ enc2 c.flat ++
    encS4 c.rangeMin ++ encS4 c.rangeMax

/-- The fields of section 4.2. -/
def Stand.bytes (t : Stand) : List Byte :=
  enc1 t.angleSource ++ enc4 t.cpr ++ enc1 t.mode.code ++ enc1 t.tolerance ++ enc2 t.standstillWindow ++
    enc1 t.driveNode ++ enc1 t.valveNode ++ enc1 t.refresh ++ enc2 t.stopRamp ++ enc2 t.stopTimeout ++
    enc2 t.ventThreshold ++ enc2 t.ventTimeout ++ encS2 t.defaultAmbient ++ enc4 t.patm

/-- The fields of section 4.3. -/
def Variant.bytes (v : Variant) : List Byte :=
  enc2 v.id ++ enc1 v.pinionTeeth ++ enc1 v.ringTeeth ++ enc1 v.profile ++ enc1 (checksBits v.required) ++
    encS2 v.oilLimit ++ enc1 v.speedTolerance ++ enc2 v.speedPersist ++ enc4 v.targetPressure ++ enc2 v.fillBand ++
    enc4 v.fillTimeout ++ enc4 v.settleTime ++ enc4 v.measureTime ++ enc2 v.window ++ enc4 v.volume ++
    enc2 v.leakLimit ++ enc4 v.coolingSpan ++ enc1 v.retestLimit ++ enc1 v.holdThreshold

/-- The fields of section 4.4. -/
def Segment.bytes (g : Segment) : List Byte :=
  encS2 g.target ++ enc2 g.ramp ++ enc2 g.settle ++ enc4 g.hold ++ encS2 g.load ++ enc2 g.torqueLimit ++ encNone g.slot

/-- The fields of section 4.5. -/
def OrderEntry.bytes (e : OrderEntry) : List Byte :=
  enc1 e.base.code ++ enc1 e.harmonic ++ enc4 e.direct ++ encList (fun p => enc2 p.speed ++ enc2 p.limit) e.curve

/-- The header and order list of section 4.5. -/
def OrderSet.bytes (o : OrderSet) : List Byte :=
  enc1 o.revs ++ enc1 o.minValid ++ enc1 o.failCount ++ enc2 o.steadiness ++ encList enc1 o.channels ++
    encList OrderEntry.bytes o.orders

/-! ## READ_CHANNEL (R35) -/

/-- The value position of a channel in a binding list, the first position 0 (R35; DESIGN CHOICE,
notes/assumptions/45.md). -/
def bindingPosition (c : Nat) (binding : List (Option Nat)) : Option Nat :=
  binding.findIdx? (fun b => b = some c)

/-- The enabled entry that binds a channel, and the value position (R35). -/
def boundAt (c : Nat) : Nat → List StreamEntry → Option (Nat × Nat)
  | _, [] => none
  | i, e :: rest =>
    match e.enabled.bind (fun cfg => bindingPosition c cfg.binding) with
    | some pos => some (i, pos)
    | none => boundAt c (i + 1) rest

/-- The reply about a channel (R35). -/
def channelReply (s : State) (c : Nat) (ch : Channel) : List Byte :=
  let place := boundAt c 0 s.streams
  encOpt ChannelConfig.bytes ch.config ++ encBool ch.acquire ++ encBool ch.diagnose ++ enc1 ch.status.code ++
    encOpt (fun k => enc1 k.code) ch.status.faultKind ++ encOpt encS2 ch.lastRaw ++ encOpt encS4 ch.lastValue ++
    enc2 ch.clipCount ++ enc2 ch.filledCount ++ enc2 ch.flatRun ++ encBool (s.inUse c) ++
    encNone (place.map Prod.fst) ++ encNone (place.map Prod.snd)

/-- The reply about a stream entry (R35).  A disabled or an empty entry's state is sent as FF hex (DESIGN CHOICE,
notes/assumptions/32.md: R35 names 'disabled' beside the three states of section 2.2, and no rule gives its code).  The
last delivered set is not shown, by R35's list and against a sentence of R24 (DEDUCED, notes/assumptions/43.md). -/
def streamReply (e : StreamEntry) : List Byte :=
  encOpt StreamConfig.bytes e.config ++ encNone (e.enabled.map (fun _ => e.run.state.code)) ++
    encOpt enc1 e.run.expected ++ encOpt encWord e.run.lastArrival ++
    enc2 e.run.accepted ++ enc2 e.run.filled ++ enc2 e.run.duplicate ++ enc2 e.run.malformed ++ enc2 e.run.gap

/-- READ_CHANNEL (R35). -/
def readChannel (selector number : Nat) (s : State) : State × Answer :=
  match selector with
  | 0 =>
    (match s.channels[number]? with
     | some ch => acceptWith s (channelReply s number ch)
     | none => refuse s .badValue)
  | 1 =>
    (match s.streams[number]? with
     | some e => acceptWith s (streamReply e)
     | none => refuse s .badValue)
  | _ => refuse s .badValue

/-! ## READ_ANGLE (R50) -/

def AngleState.code : AngleState → Nat
  | .noReference => 0
  | .locked _ => 1
  | .fault _ => 2

/-- The fields shown in LOCKED and FAULT. -/
def AngleState.track : AngleState → Option Track
  | .noReference => none
  | .locked t => some t
  | .fault t => some t

/-- The shaft speed as it is published and read: absent in NO_REFERENCE and FAULT (R45, R50). -/
def AngleState.speed : AngleState → Option Int
  | .locked t => t.shaftSpeed
  | _ => none

/-- The angle fields and the standstill window in force (R50). -/
def angleFieldBytes (t : Stand) : List Byte :=
  enc1 t.angleSource ++ enc4 t.cpr ++ enc1 t.mode.code ++ enc1 t.tolerance ++ enc2 t.standstillWindow

/-- The reply of READ_ANGLE (R50).  Behind the flag that says whether there is a source always stands the index byte of the
stand record's angle source, FF hex without a stand record (DESIGN CHOICE, notes/assumptions/34.md).  The carried flag is
present in WRAP mode too, where it is no (DESIGN CHOICE, notes/assumptions/44.md). -/
def angleReply (s : State) : List Byte :=
  let t := s.angle.state.track
  encBool s.source.isSome ++ encNone s.angleSource ++ encOpt angleFieldBytes s.stand ++ enc1 s.angle.state.code ++
    encOpt encWord (t.map Track.reference) ++ encOpt encBool (t.map Track.carried) ++
    encOpt (fun d => enc1 d.code) (t.map Track.direction) ++ encOpt encWord (t.map Track.revolutions) ++
    encOpt enc4 (t.map Track.current) ++ encOpt enc4 (t.bind Track.last) ++
    encOpt (fun k => enc1 k.code) (t.map Track.startKind) ++ encOpt encS4 (t.bind Track.revSpeed) ++
    encOpt encS4 s.angle.state.speed ++ encOpt enc2 (t.bind Track.angle16) ++
    enc1 ((t.map Track.consecutive).getD 0) ++ enc2 s.angle.totalSlips ++ encBool s.angle.standstill ++
    encOpt encWord s.angle.historyStart

/-- READ_ANGLE (R50). -/
def readAngle (s : State) : State × Answer := acceptWith s (angleReply s)

/-! ## READ_TABLE (R66) -/

/-- The reply about the partition. -/
def partitionReply (t : Option Tables) : List Byte :=
  encOpt (fun z : Sizes => enc1 z.v ++ enc1 z.p ++ enc1 z.s ++ enc1 z.o ++ enc1 z.k ++ enc2 z.cost)
    (t.map Tables.sizes)

/-- The three flags of an order-set slot, and then one copy's order set if it is loaded. -/
def orderSlotReply (o : OrderSlot) (copy : Option OrderSet) : List Byte :=
  encBool o.active.isSome ++ encBool o.shadow.isSome ++ encBool o.swapPending ++
    (match copy with | some set => set.bytes | none => [])

/-- READ_TABLE (R52, R66). -/
def readTable (kind : Option TableKind) (index : Nat) (s : State) : State × Answer :=
  match kind with
  | none => refuse s .badValue
  | some .partition => acceptWith s (partitionReply s.tables)
  | some .stand => acceptWith s (encOpt Stand.bytes s.stand)
  | some .variant =>
    (match s.tables with
     | none => refuse s .notBound
     | some t =>
       match t.variants[index]? with
       | none => refuse s .badValue
       | some slot => acceptWith s (encOpt Variant.bytes slot.record))
  | some .profile =>
    (match s.tables with
     | none => refuse s .notBound
     | some t =>
       match t.profiles[index]? with
       | none => refuse s .badValue
       | some p => acceptWith s (encOpt (encList Segment.bytes) p))
  | some .orderSetActive =>
    (match s.tables with
     | none => refuse s .notBound
     | some t =>
       match t.orderSets[index]? with
       | none => refuse s .badValue
       | some o => acceptWith s (orderSlotReply o o.active ++ encBool (s.inWindow index)))
  | some .orderSetShadow =>
    (match s.tables with
     | none => refuse s .notBound
     | some t =>
       match t.orderSets[index]? with
       | none => refuse s .badValue
       | some o => acceptWith s (orderSlotReply o o.shadow))

/-! ## READ_UNIT (R79, R80) -/

/-- The leak result as R80 shows it.  Each of its two flags is a byte of its own, yes or no (DESIGN CHOICE,
notes/assumptions/39.md: R176 also has bit fields of named members). -/
def LeakResult.bytes (r : LeakResult) : List Byte :=
  encS4 r.p1 ++ encS4 r.p2 ++ encS4Wide r.dMeas ++ encS4Wide r.dTherm ++ encS4Wide r.dLeak ++ enc2 r.q ++
    encBool r.uncompensated ++ encBool r.gain

/-- Every field of a unit record in the order of section 5.2. -/
def UnitRecord.bytes (u : UnitRecord) : List Byte :=
  u.serial ++ enc2 u.variantId ++ enc1 u.position.code ++ encWord u.admittedAt ++ enc1 u.runin.codes.1 ++
    enc1 u.runin.codes.2 ++ encOpt enc1 u.endSegment ++ encOpt encBool u.stopTimeout ++ enc1 u.noise.code ++
    enc1 u.leak.codes.1 ++ enc1 u.leak.codes.2 ++ enc1 u.retests ++ encOpt encS4 u.tEnd ++ encOpt encWord u.tEndAt ++
    encOpt enc2 u.maxTorque ++ encOpt encS4 u.maxOil ++ encOpt encWord u.guardTime ++
    encList Summary.bytes u.summaries ++ encList Finding.bytes u.findings ++ encBool u.truncated ++
    encOpt LeakResult.bytes u.leakResult

/-- The number of records and the number at each position (R79), the positions in the order of section 5.1's table, BAY_A,
TRANSFER, BAY_B (DESIGN CHOICE, notes/assumptions/20.md: R79 itself names BAY_A, BAY_B, TRANSFER). -/
def lineCounts (s : State) : List Byte :=
  enc1 s.units.length ++ enc1 (s.countAt .bayA) ++ enc1 (s.countAt .transfer) ++ enc1 (s.countAt .bayB)

/-- The record a READ_UNIT selects, with its place (R79). -/
def selectUnit (s : State) (selector ordinal : Nat) (serial : Serial) : Option (Nat × UnitRecord) :=
  let placed := (List.range s.units.length).zip s.units
  match selector with
  | 0 => placed.find? (fun x => x.2.serial = serial)
  | 1 => placed.find? (fun x => x.2.position = .bayA)
  | 2 => placed.find? (fun x => x.2.position = .bayB)
  | _ => (placed.filter (fun x => x.2.position = .transfer))[ordinal]?

/-- READ_UNIT (R79, R80).  BAD_VALUE goes before NOT_FOUND where both apply (DESIGN CHOICE, notes/assumptions/36.md). -/
def readUnit (selector ordinal : Nat) (serial : Serial) (s : State) : State × Answer :=
  if 3 < selector ∨ 5 < ordinal then refuse s .badValue
  else
    match selectUnit s selector ordinal serial with
    | none => (s, { code := .notFound, content := lineCounts s })
    | some (place, u) => acceptWith s (enc1 s.units.length ++ enc1 place ++ u.bytes)

/-! ## READ_STATS (R148) -/

/-- The fields of section 9.2. -/
def Stats.bytes (t : Stats) : List Byte :=
  enc4 t.tested ++ enc4 t.accepted ++ enc4 t.rejected ++ enc4 t.incomplete ++ encBool t.frozen ++
    enc1 t.runinRejects ++ enc1 t.noiseRejects ++ enc1 t.leakRejects ++ encBool t.held ++ enc1 (checksBits t.holdChecks)

/-- READ_STATS (R148). -/
def readStats (slot : Nat) (s : State) : State × Answer :=
  match s.tables with
  | none => refuse s .notBound
  | some t =>
    match t.variants[slot]? with
    | none => refuse s .badValue
    | some x =>
      match x.record with
      | none => acceptWith s (encBool false ++ Stats.zero.bytes)
      | some v =>
        acceptWith s (encBool true ++ enc1 slot ++ enc2 v.id ++ enc1 (checksBits v.required) ++ enc1 v.holdThreshold ++
          x.stats.bytes ++ enc1 (s.units.filter (fun u => u.variantId = v.id)).length)

/-! ## READ_STATUS (R168) -/

def LoaderState.code : LoaderState → Nat
  | .none => 0
  | .reading | .replaying _ _ _ => 1
  | .loaded _ => 2
  | .failed _ => 3

/-- The loader's detail (R173, R174). -/
def LoaderState.detail : LoaderState → Option Nat
  | .loaded n => some n
  | .failed n => some n
  | _ => Option.none

/-- An outcome's result code and cause. -/
def codesBytes (c : Nat × Nat) : List Byte := enc1 c.1 ++ enc1 c.2

/-- The Run-in Sequencer's block (R82, R168).  The outcome segment is shown in IDLE too (DEDUCED,
notes/assumptions/38.md). -/
def runInStatus (u : RunIn) : List Byte :=
  enc1 ((u.run.map (fun r => r.phase.code)).getD 0) ++ encOpt enc1 (u.run.map SpinRun.segment) ++
    encOpt (fun o : RuninOutcome => codesBytes o.codes) (u.run.bind SpinRun.pending) ++
    encOpt enc1 u.outcomeSegment ++ enc1 (if u.guardAsserted then 0 else 1)

/-- The Order Engine's block (R120).  In CLOSED the valid blocks, and without a block in flight its N, are absent like the
segment and slot (DESIGN CHOICE, notes/assumptions/40.md: R102 calls such fields 'absent or zero'). -/
def engineStatus (e : Engine) : List Byte :=
  enc1 (match e.window with | none => 0 | some w => if w.block.isNone then 1 else 2) ++
    encOpt enc1 (e.window.map Window.segment) ++ encOpt enc1 (e.window.map Window.slot) ++
    encOpt enc2 (e.window.map Window.validBlocks) ++ encOpt enc4 ((e.window.bind Window.block).map Block.n)

/-- The Leak Sequencer's block (R121, R168).  The measure count is shown in every state (DEDUCED,
notes/assumptions/38.md). -/
def leakStatus (l : Leak) : List Byte :=
  enc1 ((l.run.map (fun r => r.phase.code)).getD 0) ++
    encOpt (fun o : LeakOutcome => codesBytes o.codes) (l.run.bind LeakRun.pending) ++
    enc4 l.count ++ encOpt (fun k : ValveKind => enc1 k.code) l.lastCommand

/-- The Report Queue's block (R154).  With an empty queue the transmitted count is absent like the other fields of the oldest
report (DESIGN CHOICE, notes/assumptions/35.md: R150 calls it 0 there). -/
def reportStatus (q : ReportQueue) : List Byte :=
  enc1 q.reports.length ++ encOpt enc2 (q.reports.head?.map Report.number) ++
    encOpt enc1 (q.reports.head?.map Report.segments) ++ encOpt enc1 (q.reports.head?.map (fun _ => q.transmitted)) ++
    enc2 q.next

/-- One source's record (R160).  A pending source's context stands as in notice bytes 3 to 25, behind one presence byte
(DESIGN CHOICE, notes/assumptions/33.md). -/
def NoticeRecord.bytes (r : NoticeRecord) : List Byte :=
  encBool r.occurrence.isSome ++ encBool r.announced ++ enc1 ((r.occurrence.map Occurrence.count).getD 0) ++
    encOpt Context.bytes (r.occurrence.map Occurrence.context)

/-- The Notice Unit's block (R160). -/
def noticeStatus (u : Notices) : List Byte :=
  enc2 u.settings.masked.toNat ++ encBool u.settings.enable ++ u.settings.groups.flatMap (fun g => enc1 g.code) ++
    u.settings.classes.flatMap (fun c => enc1 c.code) ++ u.records.flatMap NoticeRecord.bytes

/-- The reply of READ_STATUS, block by block (R168). -/
def statusReply (s : State) : List Byte :=
  enc1 s.ring.node ++ encWord s.timeBase ++ encBool s.tables.isSome ++ enc1 s.loader.code ++
    encOpt enc2 s.loader.detail ++ enc1 s.ring.port.code ++ enc2 s.ring.bad ++ enc2 s.ring.stripped ++
    enc2 s.ring.expired ++ enc2 s.ring.discarded ++ enc2 s.ring.forwarded ++ enc1 s.requests.queue.length ++
    enc1 s.arbiter.replies.length ++ lineCounts s ++ encOpt id (s.serialAt .bayA) ++ encOpt id (s.serialAt .bayB) ++
    enc1 s.angle.state.code ++ encBool s.angle.standstill ++ runInStatus s.runIn ++ engineStatus s.engine ++
    leakStatus s.leak ++ reportStatus s.reports ++ noticeStatus s.notices

/-- READ_STATUS (R168). -/
def readStatus (s : State) : State × Answer := acceptWith s (statusReply s)

end Sys2Proof.Machine
end

