-- ==== Sys2Proof/Machine/Channels.lean ====
section
/-! DEFINITION. The Channel Table: values, diagnostics, faults and enables (spec/02_streams_and_channels.md, R25 to
R32). -/

namespace Sys2Proof.Machine

/-! ## One value (R28 to R31) -/

/-- The roles whose values are scaled and range-tested (R28, R31). -/
def Role.scaled : Role → Bool
  | .torque | .oilTemp | .pressure | .ambientTemp => true
  | .vibration | .sound => false

/-- The signed 32-bit range. -/
def clamp32 (z : Int) : Int := clamp (-2147483648) 2147483647 z

/-- The engineering value of a raw value (R28). -/
def ChannelConfig.engineering (cfg : ChannelConfig) (raw : Int) : Int :=
  if cfg.role.scaled then clamp32 (floorDiv (raw * cfg.gain) 65536 + cfg.offset) else raw

/-- The clip test (R29). -/
def ChannelConfig.clips (cfg : ChannelConfig) (raw : Int) : Bool := decide (cfg.clip ≤ raw.natAbs)

/-- The range test (R31). -/
def ChannelConfig.outOfRange (cfg : ChannelConfig) (value : Int) : Bool :=
  cfg.role.scaled && (decide (value < cfg.rangeMin) || decide (cfg.rangeMax < value))

/-- The flat run length after one tested real value (R30). -/
def Channel.nextRun (ch : Channel) (raw : Int) : Nat := if ch.lastRaw = some raw then satSucc 4096 ch.flatRun else 1

/-- What became of a delivered value (R28). -/
inductive ValueFate where
  | dropped
  | recorded
  | faulted
  | published (clipped : Bool)
  deriving DecidableEq, Repr

/-- The last values updated. -/
def Channel.withLast (ch : Channel) (raw value : Int) : Channel := { ch with lastRaw := some raw, lastValue := some value }

/-- A real value taken through the clip, range and flat tests (R29 to R31).  The flat run counts every tested real value
(R30), also one that fails the range test: such a value may meet both conditions, and the fault is then RANGE (R31). -/
def Channel.tested (ch : Channel) (cfg : ChannelConfig) (raw value : Int) : Channel × ValueFate :=
  let clipped := cfg.clips raw
  let run := ch.nextRun raw
  let counted := { ch.withLast raw value with
    clipCount := if clipped then sat16 ch.clipCount else ch.clipCount, flatRun := run }
  if cfg.outOfRange value then ({ counted with status := .fault .range }, .faulted)
  else if 16 ≤ cfg.flat ∧ cfg.flat ≤ run then ({ counted with status := .fault .flat }, .faulted)
  else ({ counted with status := .ok }, .published clipped)

/-- A channel takes one delivered value, by its status (R28). -/
def Channel.take (ch : Channel) (raw : Int) (filled : Bool) : Channel × ValueFate :=
  match ch.config with
  | none => (ch, .dropped)
  | some cfg =>
    let value := cfg.engineering raw
    match ch.status with
    | .disabled => (ch, .dropped)
    | .fault _ => (ch.withLast raw value, .recorded)
    | .waiting | .ok | .held | .stale =>
      if filled then
        ({ ch.withLast raw value with status := .held, filledCount := sat16 ch.filledCount }, .published false)
      else if ch.diagnose then ch.tested cfg raw value
      else ({ ch.withLast raw value with status := .ok }, .published false)

/-- Every job that had fixed the channel as its own is told that it entered FAULT or lost its acquire-enable (R26, R31):
the Order Engine withdraws it (R109), and a sequencer that requires it aborts (R93, R134). -/
def channelLost (s : State) (c : Nat) : State := leakChannelLost (runInChannelLost (engineWithdraw s c) c) c

/-- A channel entered FAULT: CHANNEL_FAULT raised with its number, and the jobs told (R31). -/
def channelFaulted (s : State) (c : Nat) : State := channelLost (raise s .channelFault none none (.number c)) c

/-- A published value reaches the two sequencers (R28). -/
def publish (s : State) (p : Published) : State := leakValue (runInValue s p) p

/-- A value delivered to channel `c` (R23, R28): the state after it, and what it published. -/
def channelValue (s : State) (c : Nat) (raw : Int) (filled : Bool) : State × Option Published :=
  match s.channels[c]? with
  | none => (s, none)
  | some ch =>
    match ch.config with
    | none => (s, none)
    | some cfg =>
      let s1 := updateChannel s c (fun ch => (ch.take raw filled).1)
      match (ch.take raw filled).2 with
      | .dropped | .recorded => (s1, none)
      | .faulted => (channelFaulted s1 c, none)
      | .published clipped =>
        let p : Published := { channel := c, role := cfg.role, bay := cfg.bay, raw := raw,
                               value := cfg.engineering raw, clipped := clipped, filled := filled }
        (publish s1 p, some p)

/-- The values of one set, position by position, to the channels their bindings name (R23, first). -/
def deliverValues (s : State) (filled : Bool) : List (Option Nat) → List Int → State × List Published
  | some c :: bindings, raw :: raws =>
    let one := channelValue s c raw filled
    let rest := deliverValues one.1 filled bindings raws
    (rest.1, one.2.toList ++ rest.2)
  | none :: bindings, _ :: raws => deliverValues s filled bindings raws
  | _, _ => (s, [])

/-- A channel's stream goes STALE or is reloaded (R17, R24). -/
def Channel.gone (ch : Channel) : Channel :=
  match ch.status with
  | .fault _ => ch
  | _ => if ch.acquire then { ch with status := .stale } else ch

/-- Every channel that a binding list names goes STALE, by the condition of R24. -/
def channelsGone (s : State) (binding : List (Option Nat)) : State :=
  binding.foldl (fun s b => match b with | some c => updateChannel s c Channel.gone | none => s) s

/-! ## Requests on channels (R25, R26, R32) -/

/-- LOAD_CHANNEL (R25, R27).  BAD_VALUE goes before IN_USE where both apply (DESIGN CHOICE, notes/assumptions/36.md). -/
def loadChannel (c : Nat) (cfg : Option ChannelConfig) (s : State) : State × Answer :=
  match cfg with
  | none => refuse s .badValue
  | some cfg =>
    if 24 ≤ c then refuse s .badValue
    else if s.inUse c then refuse s .inUse
    else accept (updateChannel s c (fun ch => { ch with config := some cfg }.cleared))

/-- A channel given new flags (R26): a change of acquire-enable clears the runtime, a change of diagnose-enable while it
stays set starts the flat run over. -/
def Channel.enabled (ch : Channel) (acquire diagnose : Bool) : Channel :=
  let new := { ch with acquire := acquire, diagnose := diagnose }
  if ch.acquire && acquire then (if ch.diagnose = diagnose then new else { new with flatRun := 0 }) else new.cleared

/-- CHANNEL_ENABLE (R26).  A flag byte that is neither yes nor no is BAD_VALUE (DEDUCED, notes/assumptions/15.md), before
NOT_FOUND where both apply (DESIGN CHOICE, notes/assumptions/36.md). -/
def channelEnable (c : Nat) (acquire diagnose : Option Bool) (s : State) : State × Answer :=
  match acquire, diagnose, s.channels[c]? with
  | some acquire, some diagnose, some ch =>
    if acquire && ch.config.isNone then refuse s .notFound
    else
      let s1 := updateChannel s c (fun ch => ch.enabled acquire diagnose)
      accept (if ch.acquire && !acquire then channelLost s1 c else s1)
  | _, _, _ => refuse s .badValue

/-- A channel after CLEAR_CHANNEL (R32). -/
def Channel.faultCleared (ch : Channel) : Channel :=
  let new := { ch with clipCount := 0, filledCount := 0 }
  match ch.status with
  | .fault _ => { new with status := .waiting, flatRun := 0 }
  | _ => new

/-- CLEAR_CHANNEL (R32). -/
def clearChannel (c : Nat) (s : State) : State × Answer :=
  if 24 ≤ c then refuse s .badValue else accept (updateChannel s c Channel.faultCleared)

end Sys2Proof.Machine
end

