-- ==== Sys2Proof/Machine/Streams.lean ====
section
/-! DEFINITION. The Stream Intake and the stream table (spec/02_streams_and_channels.md, R16 to R24). -/

namespace Sys2Proof.Machine

/-! ## A sample set (R19, R22; spec/12_frame_formats.md, 12.1) -/

/-- A well-formed sample set, or a filled one. -/
structure SampleSet where
  values : List Int
  position : Option Pos
  capture : Option Pos
  deriving DecidableEq, Repr

/-- Raw values of 2 bytes each. -/
def rawValues : List Byte → List Int
  | hi :: lo :: rest => signed16 (decNat [hi, lo]) :: rawValues rest
  | _ => []

/-- A position or a capture of 4 bytes. -/
def posOf (bytes : List Byte) : Pos := BitVec.ofNat 32 (decNat (bytes.take 4))

/-- The form check of R19 against the matched entry: sequence and set, or none for a malformed one.  Flag bits other than
the two that section 12.1 names are not looked at (notes/assumptions/9.md). -/
def readSet (cfg : StreamConfig) (payload : List Byte) : Option (Nat × SampleSet) :=
  match payload with
  | _ :: q :: flags :: n :: rest =>
    let pos := flags.getLsbD 0
    let idx := flags.getLsbD 1
    if n.toNat = cfg.count ∧ pos = cfg.hasPosition ∧ (idx = true → cfg.hasIndex = true) ∧
        rest.length = 2 * n.toNat + (if pos then 4 else 0) + (if idx then 4 else 0) then
      let tail := rest.drop (2 * n.toNat)
      some (q.toNat,
        { values := rawValues (rest.take (2 * n.toNat)),
          position := if pos then some (posOf tail) else none,
          capture := if idx then some (posOf (if pos then tail.drop 4 else tail)) else none })
    else none
  | _ => none

/-- The filled set that stands in for the one missing before `new` (R22). -/
def filledSet (last : DeliveredSet) (new : SampleSet) : SampleSet :=
  { values := last.values,
    position := match last.position, new.position with
      | some p, some q => some (p + BitVec.ofInt 32 (floorDiv (signedDiff q p) 2))
      | _, _ => none,
    capture := none }

/-! ## Delivery (R23) -/

/-- The runtime of an entry changed. -/
def updateStreamRun (s : State) (i : Nat) (f : StreamRun → StreamRun) : State :=
  updateStream s i (fun e => { e with run := f e.run })

/-- One set, real or filled, delivered: its values to the channels, its position to the Angle Unit of the angle-source
stream, and then it is the last delivered set (R23). -/
def deliver (s : State) (i : Nat) (cfg : StreamConfig) (set : SampleSet) (filled : Bool) : State :=
  let values := deliverValues s filled cfg.binding set.values
  let s1 := match set.position with
    | some pos => if s.angleSource = some i then angleSet values.1 pos set.capture filled values.2 else values.1
    | none => values.1
  updateStreamRun s1 i (fun r => { r with last := some { values := set.values, position := set.position } })

/-- A gap event of stream `i` (R20): the Angle Unit and the Order Engine hear of it, and act if the stream is the angle
source (R48, R110). -/
def gapEvent (s : State) (i : Nat) : State :=
  if s.angleSource = some i then engineBreak (loseReference s) else s

/-- A set accepted now, with sequence `q` (R20, R21). -/
def StreamRun.acceptedNow (r : StreamRun) (q : Nat) (now : Time) : StreamRun :=
  { r with state := .live, expected := some ((q + 1) % 256), lastArrival := some now, accepted := sat16 r.accepted }

/-- A fresh start (R21), or the acceptance of a set in sequence (R20). -/
def acceptSet (s : State) (i : Nat) (cfg : StreamConfig) (q : Nat) (set : SampleSet) : State :=
  deliver (updateStreamRun s i (fun r => r.acceptedNow q s.timeBase)) i cfg set false

/-- The filled set before the set that revealed the missing one (R20, R22). -/
def fillBefore (s : State) (i : Nat) (cfg : StreamConfig) (run : StreamRun) (set : SampleSet) : State :=
  match run.last with
  | none => s
  | some last =>
    deliver (updateStreamRun s i (fun r => { r with filled := sat16 r.filled })) i cfg (filledSet last set) true

/-- The sequence check of a LIVE stream (R20). -/
def sequenceCheck (s : State) (i : Nat) (cfg : StreamConfig) (run : StreamRun) (q : Nat) (set : SampleSet) : State :=
  match run.expected with
  | none => acceptSet s i cfg q set
  | some e =>
    if q = e then acceptSet s i cfg q set
    else if q = (e + 1) % 256 then acceptSet (fillBefore s i cfg run set) i cfg q set
    else if q = (e + 255) % 256 then updateStreamRun s i (fun r => { r with duplicate := sat16 r.duplicate })
    else
      acceptSet (gapEvent (updateStreamRun s i (fun r => { r with gap := sat16 r.gap })) i) i cfg q set

/-- A copied set arrives at the entry it matched (R19 to R21). -/
def intake (s : State) (i : Nat) (cfg : StreamConfig) (payload : List Byte) : State :=
  match s.streams[i]? with
  | none => s
  | some entry =>
    match readSet cfg payload with
    | none => updateStreamRun s i (fun r => { r with malformed := sat16 r.malformed })
    | some (q, set) =>
      match entry.run.state with
      | .live => sequenceCheck s i cfg entry.run q set
      | .waiting | .stale => acceptSet s i cfg q set

/-- The entry that matches a sample set (R9): enabled, with this source node and this stream number.  Two enabled entries
never share the pair (R16); the lowest-numbered one is taken. -/
def matchFrom (src num : Nat) : Nat → List StreamEntry → Option (Nat × StreamConfig)
  | _, [] => none
  | i, e :: rest =>
    match e.enabled with
    | some cfg => if cfg.source = src ∧ cfg.number = num then some (i, cfg) else matchFrom src num (i + 1) rest
    | none => matchFrom src num (i + 1) rest

/-- The match of a frame's payload (R9). -/
def matchStream (s : State) (src : Nat) (payload : List Byte) : Option (Nat × StreamConfig) :=
  match payload with
  | [] => none
  | num :: _ => matchFrom src num.toNat 0 s.streams

/-! ## Going STALE (R17, R24) -/

/-- The angle source is gone with a window open: R116 gives the outcome of either order in which the Order Engine and the
Run-in Sequencer hear of it, and a free value takes one (notes/assumptions/4.md). -/
def sourceGone (s : State) (i : Nat) (cfg : StreamConfig) : State :=
  let s1 := s.setFreeCount (s.freeCount + 1)
  if Config.engineToldFirst s.freeCount then runInStale (engineBreak s1) i cfg else engineBreak (runInStale s1 i cfg)

/-- What the channels, the Angle Unit, the sequencers and the Order Engine do when stream `i` goes STALE, or is cleared by
a reload (R17, R24, R46, R48, R93, R110, R134). -/
def streamGone (s : State) (i : Nat) (cfg : StreamConfig) : State :=
  let s1 := channelsGone s cfg.binding
  let s2 := if s1.angleSource = some i then clearHistory (loseReference s1) else s1
  let s3 := if s2.angleSource = some i ∧ s2.engine.window.isSome then sourceGone s2 i cfg else runInStale s2 i cfg
  leakStale s3 cfg

/-- A stream's stale timeout has run out (R24). -/
def State.staleDue (s : State) (i : Nat) : Bool :=
  match s.enabledStream i, s.streams[i]? with
  | some cfg, some entry =>
    (match entry.run.lastArrival with
     | some t => entry.run.state = .live && decide (cfg.stale ≤ elapsed s.timeBase t)
     | none => false)
  | _, _ => false

/-- The stale timeout of stream `i` expires (R24). -/
def staleExpires (s : State) (i : Nat) : State :=
  match s.enabledStream i with
  | none => s
  | some cfg =>
    let s1 := updateStreamRun s i (fun r => { r with state := .stale, expected := none })
    raise (streamGone s1 i cfg) .streamStale none none (.number i)

/-! ## LOAD_STREAM (R16, R17) -/

/-- Another enabled entry has the same source node and stream number (R16, third reason). -/
def pairTaken (s : State) (i : Nat) (cfg : StreamConfig) : Bool :=
  (List.range s.streams.length).any (fun j => j != i &&
    match s.enabledStream j with
    | some other => other.source = cfg.source && other.number = cfg.number
    | none => false)

/-- A different enabled entry binds a channel of the list (R16, fourth reason). -/
def channelTaken (s : State) (i : Nat) (channels : List Nat) : Bool :=
  (List.range s.streams.length).any (fun j => j != i &&
    match s.enabledStream j with
    | some other => channels.any (fun c => other.binds c)
    | none => false)

/-- The channels that an enabled configuration names; none of a disabled one. -/
def StreamConfig.live (cfg : StreamConfig) : List Nat := if cfg.enable then cfg.binding.filterMap id else []

/-- LOAD_STREAM's refusal, the first reason of R16 that applies. -/
def loadStreamRefusal (s : State) (i : Nat) (cfg : StreamConfig) : Option Code :=
  let channels := cfg.binding.filterMap id
  let old := match s.enabledStream i with | some c => c.live | none => []
  if cfg.hasIndex && !cfg.hasPosition then some .badValue
  else if cfg.enable && pairTaken s i cfg then some .badValue
  else if !allDistinct channels || (cfg.enable && channelTaken s i channels) then some .badValue
  else if (old ++ cfg.live).any s.inUse then some .inUse
  else if s.angleSource = some i ∧ s.runIn.run.isSome then some .inUse
  else none

/-- LOAD_STREAM (R16, R17). -/
def loadStream (i : Nat) (config : Option StreamConfig) (s : State) : State × Answer :=
  match config with
  | none => refuse s .badValue
  | some cfg =>
    if 16 ≤ i then refuse s .badValue
    else
      match loadStreamRefusal s i cfg with
      | some c => refuse s c
      | none =>
        let s1 := match s.enabledStream i with | some old => streamGone s i old | none => s
        accept (updateStream s1 i (fun _ => { config := some cfg, run := StreamRun.cleared }))

end Sys2Proof.Machine
end

