-- ==== Sys2Proof/Machine/Requests.lean ====
section
/-! DEFINITION. The Request Unit (spec/11_management_requests_reset_and_start_up.md, R165 to R167; R159, R160;
spec/12_frame_formats.md, R177): what each request does, the request queue and the assembly of parts. -/

namespace Sys2Proof.Machine

/-! ## Notice requests (R159, R160) -/

/-- SET_NOTICE (R160). -/
def setNotice (settings : Option NoticeSettings) (s : State) : State × Answer :=
  match settings with
  | none => refuse s .badValue
  | some x => accept (s.setNotices { s.notices with settings := x })

/-- CLEAR_NOTICE (R159): a set that names no source, or a number above 13, is refused. -/
def clearNotice (sources : BitVec 16) (s : State) : State × Answer :=
  if sources = 0 ∨ 16384 ≤ sources.toNat then refuse s .badValue
  else accept (s.setNotices { s.notices with records := clearNamed sources 0 s.notices.records })

/-! ## What a request does -/

/-- The owning block's checks and effect for every request but RESET, which is no single act (R166, R169). -/
def effectOf : Req → Option (State → State × Answer)
  | .bind sizes => some (bindTables sizes)
  | .reset => none
  | .readStatus => some readStatus
  | .setNotice settings => some (setNotice settings)
  | .clearNotice sources => some (clearNotice sources)
  | .loadStream entry config => some (loadStream entry config)
  | .loadChannel channel config => some (loadChannel channel config)
  | .channelEnable channel acquire diagnose => some (channelEnable channel acquire diagnose)
  | .clearChannel channel => some (clearChannel channel)
  | .readChannel selector number => some (readChannel selector number)
  | .readAngle => some readAngle
  | .clearAngle => some clearAngle
  | .loadStand record => some (loadStand record)
  | .loadVariant slot record => some (loadVariant slot record)
  | .loadProfile profile segments => some (loadProfile profile segments)
  | .loadOrderSet slot set => some (loadOrderSet slot set)
  | .swapOrderSet slot => some (swapOrderSet slot)
  | .readTable kind index => some (readTable kind index)
  | .admitUnit serial variant => some (admitUnit serial variant)
  | .advance .a => some advanceA
  | .advance .b => some advanceB
  | .release => some release
  | .withdraw serial => some (withdraw serial)
  | .readUnit selector ordinal serial => some (readUnit selector ordinal serial)
  | .startSpin => some startSpin
  | .abortSpin => some abortSpin
  | .clearFault .a => some clearFaultA
  | .clearFault .b => some clearFaultB
  | .startLeak => some startLeak
  | .abortLeak => some abortLeak
  | .readStats slot => some (readStats slot)
  | .clearStats slot => some (clearStats slot)
  | .releaseVariant slot => some (releaseVariant slot)

/-! ## The request queue (R165) -/

/-- A request that R177 passes on joins the queue, or is discarded with REQUEST_OVERRUN (R165). -/
def enqueueRequest (s : State) (q : Request) : State :=
  if s.requests.queue.length < 4 then s.setRequests { s.requests with queue := s.requests.queue ++ [q] }
  else raise s .requestOverrun none none (.overrun (overrunTag q.head) q.src)

/-! ## Parts and assemblies (R177) -/

/-- One consumed REQUEST by its fields: tag and kind bytes, part index and part total, arguments. -/
structure Part where
  src : Nat
  head : List Byte
  index : Nat
  total : Nat
  args : List Byte
  deriving DecidableEq, Repr

/-- A payload of at least 4 bytes as a part (section 12.2). -/
def partOf (src : Nat) (payload : List Byte) : Option Part :=
  match payload with
  | t0 :: t1 :: k :: p :: args =>
    some { src := src, head := [t0, t1, k], index := highNibble p, total := lowNibble p, args := args }
  | _ => none

/-- A request whose payload is too short for a part byte (R177). -/
def shortRequest (src : Nat) (payload : List Byte) : Request := { src := src, head := payload.take 3, args := none }

/-- An open assembly broken: one request that the form check refuses (R177). -/
def Assembly.broken (a : Assembly) : Request := { src := a.src, head := a.head, args := none }

/-- The part continues the assembly (R177). -/
def Part.continues (p : Part) (a : Assembly) : Bool :=
  p.src = a.src && p.head = a.head && p.total = a.total && p.index = a.next

/-- What a consumed REQUEST does to an assembly (R177): the requests that go on, in order, and the assembly after it.
`dropped` says that the part was dropped. -/
structure PartResult where
  requests : List Request
  assembly : Option Assembly
  dropped : Bool
  deriving DecidableEq, Repr

/-- The assembly that a first part opens (R177). -/
def Part.opened (p : Part) (now : Time) : Assembly :=
  { src := p.src, head := p.head, total := p.total, next := 1, args := p.args, since := now }

/-- A consumed REQUEST handled by its part byte (R177). -/
def handlePart (open_ : Option Assembly) (now : Time) (src : Nat) (payload : List Byte) : PartResult :=
  match partOf src payload with
  | none => { requests := [shortRequest src payload], assembly := open_, dropped := false }
  | some p =>
    let broken := (open_.map Assembly.broken).toList
    if p.index = 0 ∧ p.total = 1 then
      { requests := [{ src := src, head := p.head, args := some p.args }], assembly := open_, dropped := false }
    else if p.index = 0 ∧ 2 ≤ p.total then
      { requests := broken, assembly := some (p.opened now), dropped := false }
    else
      match open_ with
      | none => { requests := [], assembly := none, dropped := true }
      | some a =>
        if p.continues a then
          let args := a.args ++ p.args
          if a.next + 1 = a.total then
            { requests := [{ src := a.src, head := a.head, args := some args }], assembly := none, dropped := false }
          else { requests := [], assembly := some { a with args := args, next := a.next + 1, since := now },
                 dropped := false }
        else { requests := broken, assembly := none, dropped := true }

/-- A consumed REQUEST frame reaches the Request Unit (R165, R177). -/
def receiveRequest (s : State) (src : Nat) (payload : List Byte) : State :=
  let r := handlePart s.requests.assembly s.timeBase src payload
  r.requests.foldl enqueueRequest (s.setRequests { s.requests with assembly := r.assembly })

/-- The assembly has been open, or unjoined, for 100 ms (R177). -/
def State.assemblyDue (s : State) : Bool :=
  match s.requests.assembly with
  | some a => decide (100 ≤ elapsed s.timeBase a.since)
  | none => false

/-- The 100 ms pass: the assembly is broken (R177). -/
def assemblyExpires (s : State) : State :=
  match s.requests.assembly with
  | none => s
  | some a => enqueueRequest (s.setRequests { s.requests with assembly := none }) a.broken

/-! ## BAD_REQUEST (R167) -/

/-- The oldest waiting request, if it may begin and fails the form check, is refused. -/
def executeBad (s : State) : State :=
  match s.oldest with
  | none => s
  | some q =>
    match q.form with
    | .ok _ => s
    | .error c => executeOne s q (fun t => refuse t c)

end Sys2Proof.Machine
end

