-- ==== Sys2Proof/Machine/Loader.lean ====
section
/-! DEFINITION. The Configuration Loader (spec/11_management_requests_reset_and_start_up.md, R173 to R175; R177). -/

namespace Sys2Proof.Machine

/-! ## The image (R173) -/

/-- The records of an image's record bytes, or none when a length byte is 0 or a record runs beyond the bytes; one unit of
`fuel` per record is enough when it is the number of bytes. -/
def splitRecords : Nat → List Byte → Option (List (List Byte))
  | _, [] => some []
  | 0, _ :: _ => none
  | fuel + 1, n :: rest =>
    if n = 0 ∨ rest.length < n.toNat then none
    else
      match splitRecords fuel (rest.drop n.toNat) with
      | some records => some (rest.take n.toNat :: records)
      | none => none

/-- The sum of the record bytes modulo 65536 (section 11.6). -/
def byteSum (bytes : List Byte) : Nat := (bytes.map BitVec.toNat).sum % 65536

/-- The records of a good image; none of a bad one (R173).  A memory that ends before the image does does not answer for
the missing bytes (notes/assumptions/11.md). -/
def readImage (image : Option (List Byte)) : Option (List (List Byte)) :=
  match image with
  | some (l0 :: l1 :: s0 :: s1 :: rest) =>
    let len := decNat [l0, l1]
    if len = 0 ∨ 65532 < len ∨ rest.length < len then none
    else if byteSum (rest.take len) ≠ decNat [s0, s1] then none
    else splitRecords len (rest.take len)
  | _ => none

/-- The loader enters FAILED with a detail, and CONFIG_LOAD_FAILED is raised (R173, R174). -/
def loadFails (s : State) (record : Nat) : State :=
  raise (s.setLoader (.failed record)) .configLoadFailed none none (.record record)

/-- The image has been read (R173). -/
def imageRead (s : State) (image : Option (List Byte)) : State :=
  match readImage image with
  | none => loadFails s 0
  | some records => s.setLoader (.replaying 1 records none)

/-! ## The replay (R174, R177) -/

/-- A stored request executed: the state after it, and whether it was answered OK.  RESET is a failing record. -/
def replayRequest (s : State) (q : Request) : State × Bool :=
  match q.form with
  | .error _ => (s, false)
  | .ok r =>
    match effectOf r with
    | none => (s, false)
    | some effect =>
      let result := effect s
      (result.1, result.2.code = .ok)

/-- One stored record: the state after it, whether the replay goes on, and the loader's assembly.  A dropped record with no
assembly open is answered by a free value (notes/assumptions/5.md). -/
def replayRecord (s : State) (assembly : Option Assembly) (record : List Byte) : State × Bool × Option Assembly :=
  let part := handlePart assembly s.timeBase 0 record
  if part.dropped then
    if assembly.isSome then (s, false, none)
    else (s.setFreeCount (s.freeCount + 1), Config.droppedRecordGoesOn s.freeCount, none)
  else
    match part.requests with
    | [] => (s, true, part.assembly)
    | q :: _ =>
      let result := replayRequest s q
      (result.1, result.2, part.assembly)

/-- The next stored record is replayed (R174). -/
def replayNext (s : State) (next : Nat) (record : List Byte) (rest : List (List Byte)) (assembly : Option Assembly) :
    State :=
  let r := replayRecord s assembly record
  if r.2.1 = false then loadFails r.1 next
  else
    match rest with
    | [] => if r.2.2.isSome then loadFails r.1 next else r.1.setLoader (.loaded next)
    | _ :: _ => r.1.setLoader (.replaying (next + 1) rest r.2.2)

end Sys2Proof.Machine
end

