-- ==== Sys2Proof/Machine/RingPort.lean ====
section
/-! DEFINITION. The Ring Port's events (spec/01_the_station_ring.md, R2 to R15) and the transmission reports they end in
(R153, R162, R163). -/

namespace Sys2Proof.Machine

/-! ## The forward path (R8, R10) -/

/-- A frame to be forwarded is dealt with on arrival (R10). -/
def forwardFrame (s : State) (frame : List Byte) : State :=
  match s.ring.line, s.ring.buffer with
  | none, [] =>
    s.setRing { s.ring with line := some { bytes := frame, origin := .transit }, forwarded := sat16 s.ring.forwarded }
  | _, buffer =>
    if buffer.length < 2 then s.setRing { s.ring with buffer := buffer ++ [frame] }
    else s.setRing { s.ring with discarded := sat16 s.ring.discarded }

/-! ## Arrivals (R3 to R9, R13, R14) -/

/-- A fragment, or a bad frame, is counted (R3, R4). -/
def countBad (s : State) : State := s.setRing { s.ring with bad := sat16 s.ring.bad }

/-- A good arrival (R13, R14): the time stamp renewed, DOWN left for UP, and RING_RESTORED raised at every such change
but the first. -/
def goodArrival (s : State) : State :=
  let s1 := s.setRing { s.ring with stamp := some s.timeBase, port := .up, everUp := true }
  if s.ring.port = .down ∧ s.ring.everUp = true then raise s1 .ringRestored none none (.stamp s.timeBase) else s1

/-- The rows of R5 for a good frame: the first whose condition holds. -/
inductive Row where
  | stripped
  | consumed
  | expired
  | matched (entry : Nat) (cfg : StreamConfig)
  | other
  deriving DecidableEq, Repr

/-- The classification of a good frame (R5). -/
def classify (s : State) (f : Frame) : Row :=
  if f.src = s.ring.node then .stripped
  else if f.dest = s.ring.node then .consumed
  else if f.hop ≤ 1 then .expired
  else if f.kind = kindSampleSet then
    match matchStream s f.src f.payload with
    | some (i, cfg) => .matched i cfg
    | none => .other
  else .other

/-- The action of a row (R5 to R9).  A frame of the part's own that returns adds 1 to the stripped count, as R5, R6 and R15
say and R12 denies (DEDUCED, notes/assumptions/42.md). -/
def handleRow (s : State) (f : Frame) : Row → State
  | .stripped => s.setRing { s.ring with stripped := sat16 s.ring.stripped }
  | .consumed =>
    if f.kind = kindRequest then receiveRequest s f.src f.payload
    else s.setRing { s.ring with discarded := sat16 s.ring.discarded }
  | .expired => s.setRing { s.ring with expired := sat16 s.ring.expired }
  | .matched i cfg =>
    (match cfg.disposition with
     | .forward => intake (forwardFrame s f.forwarded) i cfg f.payload
     | .absorb => intake s i cfg f.payload)
  | .other => forwardFrame s f.forwarded

/-- A frame repeated in BYPASS, byte for byte: no check, no count (R2). -/
def repeatFrame (s : State) (bytes : List Byte) : State :=
  s.setRing { s.ring with line := some { bytes := bytes, origin := .transit } }

/-- A whole frame arrives at a part that is not held in reset (R2 to R5). -/
def arrive (s : State) (bytes : List Byte) : State :=
  if s.ring.port = .bypass then repeatFrame s bytes
  else if largestFrame < bytes.length then countBad s
  else
    match checkFrame bytes with
    | none => forwardFrame (countBad s) bytes
    | some f =>
      let s1 := goodArrival s
      handleRow s1 f (classify s1 f)

/-- 2 ms have passed since the last good arrival in UP (R13). -/
def State.ringDownDue (s : State) : Bool :=
  match s.ring.stamp with
  | some t => s.ring.port = .up && decide (2 ≤ elapsed s.timeBase t)
  | none => false

/-- UP becomes DOWN (R13). -/
def ringDown (s : State) : State := s.setRing { s.ring with port := .down }

/-! ## Transmission reports (R12, R153, R154, R162, R163) -/

/-- A safe command of a station reset in progress is reported transmitted (R170): it is the one of that number. -/
def ResetWait.reported (w : ResetWait) (drive : Bool) (number : Nat) : ResetWait :=
  if drive then { w with driveDone := w.driveDone || w.driveNumber = number }
  else { w with valveDone := w.valveDone || w.valveNumber = number }

/-- A command is reported transmitted (R162, R170). -/
def reportCommand (s : State) (drive : Bool) (number : Nat) : State :=
  s.setRequests { s.requests with resetWait := s.requests.resetWait.map (fun w => w.reported drive number) }

/-- A reply frame is reported transmitted (R163). -/
def reportReply (s : State) : State :=
  match s.arbiter.replies with
  | [] => s
  | r :: rest =>
    if s.arbiter.sent + 1 < r.frames then s.setArbiter { s.arbiter with sent := s.arbiter.sent + 1 }
    else s.setArbiter { s.arbiter with replies := rest, sent := 0 }

/-- A report segment is reported transmitted: it counts only if it is the present offer (R153, R154). -/
def reportSegment (s : State) (number segment : Nat) : State :=
  match s.reports.reports with
  | [] => s
  | r :: rest =>
    if r.number = number ∧ s.reports.transmitted = segment then
      if s.reports.transmitted + 1 < r.segments then
        s.setReports { s.reports with transmitted := s.reports.transmitted + 1 }
      else s.setReports { s.reports with reports := rest, transmitted := 0 }
    else s

/-- The report of a transmitted frame goes to the place it came from (R12, R158, R161). -/
def reportTransmitted (s : State) : Origin → State
  | .transit => s
  | .drive n => reportCommand s true n
  | .valve n => reportCommand s false n
  | .reply => reportReply s
  | .notice => s
  | .report number segment => reportSegment s number segment

/-- The end delimiter of the frame on the line has left the port (R11, R12): the line is idle, and the transmitted frame
is reported; what follows on the line is `pump`'s. -/
def lineEnds (s : State) : State :=
  match s.ring.line with
  | none => s
  | some f => reportTransmitted (s.setRing { s.ring with line := none }) f.origin

end Sys2Proof.Machine
end

