-- ==== Sys2Proof/Machine/Reset.lean ====
section
/-! DEFINITION. Power-on, pin reset and station reset (R1, R101, R118, R139, R169, R170, R172). -/

namespace Sys2Proof.Machine

/-! ## Power-on and pin reset (R1, R172) -/

/-- The port state that the straps give (R1). -/
def strapPort (straps : BitVec 4) : PortState := if straps = 0 then .bypass else .down

/-- Every block as its chapter gives it after a power-on or pin reset, with the pins at these levels: the straps are read
(R1) and the guard state is taken from the guard line (R82).  The MODEL's own two fields are kept. -/
def afterReset (s : State) (pins : Pins) : State :=
  { State.reset with
    pins := pins,
    ring := { State.reset.ring with node := pins.straps.toNat, port := strapPort pins.straps },
    runIn := { State.reset.runIn with guardAsserted := pins.guardLow },
    freeCount := s.freeCount,
    pending := s.pending }

/-- The part is held in reset (R172): whatever it held is gone, the frame on the line cut off, the forward buffer lost
(R1). -/
def holdInReset (s : State) : State := afterReset s { s.pins with resetHeld := true }

/-- The reset ends with these levels on the pins (R172): the part starts, and with a node number and the load strap the
Configuration Loader enters LOADING (R173). -/
def startUp (s : State) (straps : BitVec 4) (loadStrap guardAsserted : Bool) : State :=
  (afterReset s { straps := straps, loadStrap := loadStrap, resetHeld := false, guardLow := guardAsserted }).setLoader
    (if straps ≠ 0 ∧ loadStrap = true then .reading else .none)

/-! ## Station reset (R169, R170) -/

/-- An enabled entry's runtime cleared (R18, R170). -/
def StreamEntry.runCleared (e : StreamEntry) : StreamEntry := if e.enabled.isSome then { e with run := StreamRun.cleared } else e

/-- A swap pending on the slot in a window is carried out without notice (R65). -/
def resetSwap (s : State) : State :=
  match s.engine.window with
  | none => s
  | some w => updateSlot s w.slot (fun o => if o.swapPending then o.swapped else o)

/-- The clearing of R170: block by block what its table clears. -/
def clearWork (s : State) : State :=
  let s1 := resetSwap s
  { s1 with
    streams := s1.streams.map StreamEntry.runCleared,
    channels := s1.channels.map Channel.cleared,
    angle := Angle.afterReset,
    units := [],
    runIn := { run := none, outcomeSegment := none, commandNumber := s1.runIn.commandNumber, lastCommand := none,
               refreshStart := none, guardAsserted := s1.runIn.guardAsserted },
    engine := { window := none, failSeen := false, noResultSeen := false, unavailableSeen := false },
    leak := { run := none, count := 0, commandNumber := s1.leak.commandNumber, lastCommand := s1.leak.lastCommand,
              refreshStart := none, suppressed := false },
    reports := { reports := [], transmitted := 0, next := s1.reports.next },
    notices := s1.notices.cleared,
    requests := { s1.requests with resetWait := none } }

/-- The kind code of RESET (section 12.2). -/
def kindReset : Nat := 0x02

/-- The reply to RESET: code OK and an empty payload (R170). -/
def resetReply (src tag : Nat) : Reply := { dest := src, tag := tag, kind := kindReset, code := 0, content := [] }

/-- The clearing and the reply that follows it (R170). -/
def completeReset (s : State) (src tag : Nat) : State := enqueueReply (clearWork s) (resetReply src tag)

/-- The two safe commands, and the wait for their transmission reports (R169). -/
def safeCommands (s : State) (src tag : Nat) : State :=
  let s1 := issueValve (issueDriveNow s false 0 0 0) .vent
  let s2 := s1.setLeak { s1.leak with suppressed := true }
  s2.setRequests { s2.requests with
    resetWait := some { src := src, tag := tag, driveNumber := s2.runIn.commandNumber,
                        valveNumber := s2.leak.commandNumber, driveDone := false, valveDone := false } }

/-- RESET is executed (R169): without a stand record the clearing follows at once. -/
def beginReset (s : State) (src tag : Nat) : State :=
  if s.stand.isSome then safeCommands s src tag else completeReset s src tag

/-- The step of RESET: the oldest waiting request is one, and may begin. -/
def executeReset (s : State) : State :=
  match s.oldest with
  | none => s
  | some q =>
    match q.form with
    | .ok .reset => pump (beginReset (dequeue s) q.src (tagOf q.head))
    | _ => s

end Sys2Proof.Machine
end

