-- ==== Sys2Proof/Machine/EventCommands.lean ====
section
/-! DEFINITION. The commands that are events: pins, frames, timers, the Configuration Loader and the end of a station
reset.  An event whose condition does not hold does not come about, and nothing changes (notes/assumptions/6.md). -/

namespace Sys2Proof.Machine

/-- An event that is due, in a part that is not held in reset, has its effect, and an idle line then takes what it finds
(R11); otherwise nothing changes.  That the line takes nothing before the whole effect is done, so that of two commands
placed in one step the first is replaced unsent, is DESIGN CHOICE (notes/assumptions/37.md). -/
def whenDue (s : State) (due : Bool) (effect : State → State) : State :=
  if !s.pins.resetHeld && due then pump (effect s) else s

/-! ## Pins and start-up -/

/-- POWER_ON (R1, R172). -/
def execPowerOn (s : State) : Host.Outcome State Fault Refusal := .next (holdInReset s)

/-- PIN_RESET (R1, R172). -/
def execPinReset (s : State) : Host.Outcome State Fault Refusal := .next (holdInReset s)

/-- RESET_END (R172): it comes only to a part held in reset. -/
def execResetEnd (straps : BitVec 4) (loadStrap guardAsserted : Bool) (s : State) :
    Host.Outcome State Fault Refusal :=
  .next (if s.pins.resetHeld then startUp s straps loadStrap guardAsserted else s)

/-- CONFIG_IMAGE_READ (R173). -/
def execConfigImageRead (image : Option (List Byte)) (s : State) : Host.Outcome State Fault Refusal :=
  .next (whenDue s (s.loader = .reading) (fun s => imageRead s image))

/-- CONFIG_RECORD_REPLAY (R174). -/
def execConfigRecordReplay (s : State) : Host.Outcome State Fault Refusal :=
  match s.loader with
  | .replaying next (record :: rest) assembly =>
    .next (whenDue s true (fun s => replayNext s next record rest assembly))
  | _ => .next s

/-! ## The ring -/

/-- FRAME_ARRIVAL (R2 to R5). -/
def execFrameArrival (bytes : List Byte) (s : State) : Host.Outcome State Fault Refusal :=
  .next (whenDue s true (fun s => arrive s bytes))

/-- FRAGMENT (R3); not counted in BYPASS (R2, R15). -/
def execFragment (s : State) : Host.Outcome State Fault Refusal :=
  .next (whenDue s (s.ring.port != .bypass) countBad)

/-- TRANSMISSION_END (R11, R12). -/
def execTransmissionEnd (s : State) : Host.Outcome State Fault Refusal :=
  .next (whenDue s s.ring.line.isSome lineEnds)

/-- RING_DOWN_TIMEOUT (R13). -/
def execRingDownTimeout (s : State) : Host.Outcome State Fault Refusal := .next (whenDue s s.ringDownDue ringDown)

/-- STALE_TIMEOUT (R24). -/
def execStaleTimeout (entry : Nat) (s : State) : Host.Outcome State Fault Refusal :=
  .next (whenDue s (s.staleDue entry) (fun s => staleExpires s entry))

/-- ASSEMBLY_TIMEOUT (R177). -/
def execAssemblyTimeout (s : State) : Host.Outcome State Fault Refusal := .next (whenDue s s.assemblyDue assemblyExpires)

/-! ## The guard line -/

/-- The level of the guard pin. -/
def setGuardPin (s : State) (asserted : Bool) : State := s.setPins { s.pins with guardLow := asserted }

/-- GUARD (R96): the part acts on a change of level.  Held in reset (R172) or in BYPASS (R2) only the pin changes. -/
def execGuard (asserted : Bool) (s : State) : Host.Outcome State Fault Refusal :=
  .next (if asserted = s.pins.guardLow then s
         else whenDue (setGuardPin s asserted) (s.ring.port != .bypass) (fun s => guardEdge s asserted))

/-! ## The Run-in Sequencer's timers -/

/-- RAMP_END (R85). -/
def execRampEnd (s : State) : Host.Outcome State Fault Refusal := .next (whenDue s s.rampDue enterSettle)

/-- SETTLE_END (R85, R86). -/
def execSettleEnd (s : State) : Host.Outcome State Fault Refusal := .next (whenDue s s.settleDue holdEntry)

/-- HOLD_END (R87). -/
def execHoldEnd (s : State) : Host.Outcome State Fault Refusal := .next (whenDue s s.holdDue endHold)

/-- SPEED_PERSIST_EXPIRY (R92). -/
def execSpeedPersistExpiry (s : State) : Host.Outcome State Fault Refusal :=
  .next (whenDue s s.persistDue (fun s => takeOutcome s (.fail .speed)))

/-- DRIVE_REFRESH (R89). -/
def execDriveRefresh (s : State) : Host.Outcome State Fault Refusal := .next (whenDue s s.driveRefreshDue repeatDrive)

/-- STOP_TIMEOUT (R99). -/
def execStopTimeout (s : State) : Host.Outcome State Fault Refusal :=
  match s.runIn.run with
  | none => .next s
  | some r => .next (whenDue s s.stopDue (fun s => stopTimedOut s r))

/-! ## The Leak Sequencer's timers -/

/-- FILL_TIMEOUT (R127). -/
def execFillTimeout (s : State) : Host.Outcome State Fault Refusal :=
  .next (whenDue s s.fillDue (fun s => takeLeakOutcome s (.fail .gross) none))

/-- LEAK_SETTLE_END (R128, R129). -/
def execLeakSettleEnd (s : State) : Host.Outcome State Fault Refusal := .next (whenDue s s.leakSettleDue enterMeasure)

/-- MEASURE_END (R131). -/
def execMeasureEnd (s : State) : Host.Outcome State Fault Refusal := .next (whenDue s s.measureDue endMeasure)

/-- VENT_TIMEOUT (R137). -/
def execVentTimeout (s : State) : Host.Outcome State Fault Refusal :=
  match s.leak.run with
  | none => .next s
  | some r => .next (whenDue s s.ventDue (fun s => ventTimedOut s r))

/-- VALVE_REFRESH (R125). -/
def execValveRefresh (s : State) : Host.Outcome State Fault Refusal := .next (whenDue s s.valveRefreshDue repeatValve)

/-! ## The end of a station reset -/

/-- STATION_RESET_CLEARING (R170). -/
def execStationResetClearing (s : State) : Host.Outcome State Fault Refusal :=
  match s.clearingDue with
  | none => .next s
  | some w => .next (whenDue s true (fun s => completeReset s w.src w.tag))

end Sys2Proof.Machine
end

