-- ==== Sys2Proof/Machine/RequestCommands.lean ====
section
/-! DEFINITION. The commands that execute a waiting request (R166): for each row of the table, the step in which the Request
Unit takes the oldest waiting request and it is of that kind. -/

namespace Sys2Proof.Machine

/-- BAD_REQUEST (R167): the oldest waiting request fails the form check. -/
def execBadRequest (s : State) : Host.Outcome State Fault Refusal := .next (executeBad s)

/-- RESET (R169). -/
def execReset (s : State) : Host.Outcome State Fault Refusal := .next (executeReset s)

/-- What BIND picks out. -/
def pickBind : Req → Option (State → State × Answer)
  | .bind sizes => some (bindTables sizes)
  | _ => none

/-- BIND (R51). -/
def execBind (s : State) : Host.Outcome State Fault Refusal := .next (executeKind s pickBind)

/-- What READ_STATUS picks out. -/
def pickReadStatus : Req → Option (State → State × Answer)
  | .readStatus => some Sys2Proof.Machine.readStatus
  | _ => none

/-- READ_STATUS (R168). -/
def execReadStatus (s : State) : Host.Outcome State Fault Refusal := .next (executeKind s pickReadStatus)

/-- What SET_NOTICE picks out. -/
def pickSetNotice : Req → Option (State → State × Answer)
  | .setNotice settings => some (setNotice settings)
  | _ => none

/-- SET_NOTICE (R160). -/
def execSetNotice (s : State) : Host.Outcome State Fault Refusal := .next (executeKind s pickSetNotice)

/-- What CLEAR_NOTICE picks out. -/
def pickClearNotice : Req → Option (State → State × Answer)
  | .clearNotice sources => some (clearNotice sources)
  | _ => none

/-- CLEAR_NOTICE (R159). -/
def execClearNotice (s : State) : Host.Outcome State Fault Refusal := .next (executeKind s pickClearNotice)

/-- What LOAD_STREAM picks out. -/
def pickLoadStream : Req → Option (State → State × Answer)
  | .loadStream entry config => some (loadStream entry config)
  | _ => none

/-- LOAD_STREAM (R16, R17). -/
def execLoadStream (s : State) : Host.Outcome State Fault Refusal := .next (executeKind s pickLoadStream)

/-- What LOAD_CHANNEL picks out. -/
def pickLoadChannel : Req → Option (State → State × Answer)
  | .loadChannel channel config => some (loadChannel channel config)
  | _ => none

/-- LOAD_CHANNEL (R25). -/
def execLoadChannel (s : State) : Host.Outcome State Fault Refusal := .next (executeKind s pickLoadChannel)

/-- What CHANNEL_ENABLE picks out. -/
def pickChannelEnable : Req → Option (State → State × Answer)
  | .channelEnable channel acquire diagnose => some (channelEnable channel acquire diagnose)
  | _ => none

/-- CHANNEL_ENABLE (R26). -/
def execChannelEnable (s : State) : Host.Outcome State Fault Refusal := .next (executeKind s pickChannelEnable)

/-- What CLEAR_CHANNEL picks out. -/
def pickClearChannel : Req → Option (State → State × Answer)
  | .clearChannel channel => some (clearChannel channel)
  | _ => none

/-- CLEAR_CHANNEL (R32). -/
def execClearChannel (s : State) : Host.Outcome State Fault Refusal := .next (executeKind s pickClearChannel)

/-- What READ_CHANNEL picks out. -/
def pickReadChannel : Req → Option (State → State × Answer)
  | .readChannel selector number => some (readChannel selector number)
  | _ => none

/-- READ_CHANNEL (R35). -/
def execReadChannel (s : State) : Host.Outcome State Fault Refusal := .next (executeKind s pickReadChannel)

/-- What READ_ANGLE picks out. -/
def pickReadAngle : Req → Option (State → State × Answer)
  | .readAngle => some Sys2Proof.Machine.readAngle
  | _ => none

/-- READ_ANGLE (R50). -/
def execReadAngle (s : State) : Host.Outcome State Fault Refusal := .next (executeKind s pickReadAngle)

/-- What CLEAR_ANGLE picks out. -/
def pickClearAngle : Req → Option (State → State × Answer)
  | .clearAngle => some Sys2Proof.Machine.clearAngle
  | _ => none

/-- CLEAR_ANGLE (R49). -/
def execClearAngle (s : State) : Host.Outcome State Fault Refusal := .next (executeKind s pickClearAngle)

/-- What LOAD_STAND picks out. -/
def pickLoadStand : Req → Option (State → State × Answer)
  | .loadStand record => some (loadStand record)
  | _ => none

/-- LOAD_STAND (R54, R55). -/
def execLoadStand (s : State) : Host.Outcome State Fault Refusal := .next (executeKind s pickLoadStand)

/-- What LOAD_VARIANT picks out. -/
def pickLoadVariant : Req → Option (State → State × Answer)
  | .loadVariant slot record => some (loadVariant slot record)
  | _ => none

/-- LOAD_VARIANT (R56). -/
def execLoadVariant (s : State) : Host.Outcome State Fault Refusal := .next (executeKind s pickLoadVariant)

/-- What LOAD_PROFILE picks out. -/
def pickLoadProfile : Req → Option (State → State × Answer)
  | .loadProfile profile segments => some (loadProfile profile segments)
  | _ => none

/-- LOAD_PROFILE (R58). -/
def execLoadProfile (s : State) : Host.Outcome State Fault Refusal := .next (executeKind s pickLoadProfile)

/-- What LOAD_ORDER_SET picks out. -/
def pickLoadOrderSet : Req → Option (State → State × Answer)
  | .loadOrderSet slot set => some (loadOrderSet slot set)
  | _ => none

/-- LOAD_ORDER_SET (R60). -/
def execLoadOrderSet (s : State) : Host.Outcome State Fault Refusal := .next (executeKind s pickLoadOrderSet)

/-- What SWAP_ORDER_SET picks out. -/
def pickSwapOrderSet : Req → Option (State → State × Answer)
  | .swapOrderSet slot => some (swapOrderSet slot)
  | _ => none

/-- SWAP_ORDER_SET (R62). -/
def execSwapOrderSet (s : State) : Host.Outcome State Fault Refusal := .next (executeKind s pickSwapOrderSet)

/-- What READ_TABLE picks out. -/
def pickReadTable : Req → Option (State → State × Answer)
  | .readTable kind index => some (readTable kind index)
  | _ => none

/-- READ_TABLE (R66). -/
def execReadTable (s : State) : Host.Outcome State Fault Refusal := .next (executeKind s pickReadTable)

/-- What ADMIT picks out. -/
def pickAdmitUnit : Req → Option (State → State × Answer)
  | .admitUnit serial variant => some (admitUnit serial variant)
  | _ => none

/-- ADMIT (R70, R71). -/
def execAdmitUnit (s : State) : Host.Outcome State Fault Refusal := .next (executeKind s pickAdmitUnit)

/-- What ADVANCE with bay A picks out. -/
def pickAdvanceA : Req → Option (State → State × Answer)
  | .advance .a => some Sys2Proof.Machine.advanceA
  | _ => none

/-- ADVANCE with bay A (R72). -/
def execAdvanceA (s : State) : Host.Outcome State Fault Refusal := .next (executeKind s pickAdvanceA)

/-- What ADVANCE with bay B picks out. -/
def pickAdvanceB : Req → Option (State → State × Answer)
  | .advance .b => some Sys2Proof.Machine.advanceB
  | _ => none

/-- ADVANCE with bay B (R73). -/
def execAdvanceB (s : State) : Host.Outcome State Fault Refusal := .next (executeKind s pickAdvanceB)

/-- What RELEASE picks out. -/
def pickRelease : Req → Option (State → State × Answer)
  | .release => some Sys2Proof.Machine.release
  | _ => none

/-- RELEASE (R74, R75). -/
def execRelease (s : State) : Host.Outcome State Fault Refusal := .next (executeKind s pickRelease)

/-- What WITHDRAW picks out. -/
def pickWithdraw : Req → Option (State → State × Answer)
  | .withdraw serial => some (withdraw serial)
  | _ => none

/-- WITHDRAW (R76, R77). -/
def execWithdraw (s : State) : Host.Outcome State Fault Refusal := .next (executeKind s pickWithdraw)

/-- What READ_UNIT picks out. -/
def pickReadUnit : Req → Option (State → State × Answer)
  | .readUnit selector ordinal serial => some (readUnit selector ordinal serial)
  | _ => none

/-- READ_UNIT (R79, R80). -/
def execReadUnit (s : State) : Host.Outcome State Fault Refusal := .next (executeKind s pickReadUnit)

/-- What START_SPIN picks out. -/
def pickStartSpin : Req → Option (State → State × Answer)
  | .startSpin => some Sys2Proof.Machine.startSpin
  | _ => none

/-- START_SPIN (R83, R84). -/
def execStartSpin (s : State) : Host.Outcome State Fault Refusal := .next (executeKind s pickStartSpin)

/-- What ABORT_SPIN picks out. -/
def pickAbortSpin : Req → Option (State → State × Answer)
  | .abortSpin => some Sys2Proof.Machine.abortSpin
  | _ => none

/-- ABORT_SPIN (R95). -/
def execAbortSpin (s : State) : Host.Outcome State Fault Refusal := .next (executeKind s pickAbortSpin)

/-- What CLEAR_FAULT with bay A picks out. -/
def pickClearFaultA : Req → Option (State → State × Answer)
  | .clearFault .a => some Sys2Proof.Machine.clearFaultA
  | _ => none

/-- CLEAR_FAULT with bay A (R100). -/
def execClearFaultA (s : State) : Host.Outcome State Fault Refusal := .next (executeKind s pickClearFaultA)

/-- What START_LEAK picks out. -/
def pickStartLeak : Req → Option (State → State × Answer)
  | .startLeak => some Sys2Proof.Machine.startLeak
  | _ => none

/-- START_LEAK (R122, R123). -/
def execStartLeak (s : State) : Host.Outcome State Fault Refusal := .next (executeKind s pickStartLeak)

/-- What ABORT_LEAK picks out. -/
def pickAbortLeak : Req → Option (State → State × Answer)
  | .abortLeak => some Sys2Proof.Machine.abortLeak
  | _ => none

/-- ABORT_LEAK (R135). -/
def execAbortLeak (s : State) : Host.Outcome State Fault Refusal := .next (executeKind s pickAbortLeak)

/-- What CLEAR_FAULT with bay B picks out. -/
def pickClearFaultB : Req → Option (State → State × Answer)
  | .clearFault .b => some Sys2Proof.Machine.clearFaultB
  | _ => none

/-- CLEAR_FAULT with bay B (R138). -/
def execClearFaultB (s : State) : Host.Outcome State Fault Refusal := .next (executeKind s pickClearFaultB)

/-- What READ_STATS picks out. -/
def pickReadStats : Req → Option (State → State × Answer)
  | .readStats slot => some (readStats slot)
  | _ => none

/-- READ_STATS (R148). -/
def execReadStats (s : State) : Host.Outcome State Fault Refusal := .next (executeKind s pickReadStats)

/-- What CLEAR_STATS picks out. -/
def pickClearStats : Req → Option (State → State × Answer)
  | .clearStats slot => some (clearStats slot)
  | _ => none

/-- CLEAR_STATS (R147). -/
def execClearStats (s : State) : Host.Outcome State Fault Refusal := .next (executeKind s pickClearStats)

/-- What RELEASE_VARIANT picks out. -/
def pickReleaseVariant : Req → Option (State → State × Answer)
  | .releaseVariant slot => some (releaseVariant slot)
  | _ => none

/-- RELEASE_VARIANT (R146). -/
def execReleaseVariant (s : State) : Host.Outcome State Fault Refusal := .next (executeKind s pickReleaseVariant)

end Sys2Proof.Machine
end

