-- ==== Sys2Proof/Machine/Dispatch.lean ====
section
/-! DEFINITION. One arm per command: its meaning. -/

namespace Sys2Proof.Machine

def exec (i : Instr) (s : State) : Host.Outcome State Fault Refusal :=
  match i with
  | .powerOn => Sys2Proof.Machine.execPowerOn s
  | .pinReset => Sys2Proof.Machine.execPinReset s
  | .resetEnd straps loadStrap guardAsserted => Sys2Proof.Machine.execResetEnd straps loadStrap guardAsserted s
  | .configImageRead image => Sys2Proof.Machine.execConfigImageRead image s
  | .configRecordReplay => Sys2Proof.Machine.execConfigRecordReplay s
  | .frameArrival bytes => Sys2Proof.Machine.execFrameArrival bytes s
  | .fragment => Sys2Proof.Machine.execFragment s
  | .transmissionEnd => Sys2Proof.Machine.execTransmissionEnd s
  | .ringDownTimeout => Sys2Proof.Machine.execRingDownTimeout s
  | .staleTimeout entry => Sys2Proof.Machine.execStaleTimeout entry s
  | .guard asserted => Sys2Proof.Machine.execGuard asserted s
  | .assemblyTimeout => Sys2Proof.Machine.execAssemblyTimeout s
  | .rampEnd => Sys2Proof.Machine.execRampEnd s
  | .settleEnd => Sys2Proof.Machine.execSettleEnd s
  | .holdEnd => Sys2Proof.Machine.execHoldEnd s
  | .speedPersistExpiry => Sys2Proof.Machine.execSpeedPersistExpiry s
  | .driveRefresh => Sys2Proof.Machine.execDriveRefresh s
  | .stopTimeout => Sys2Proof.Machine.execStopTimeout s
  | .fillTimeout => Sys2Proof.Machine.execFillTimeout s
  | .leakSettleEnd => Sys2Proof.Machine.execLeakSettleEnd s
  | .measureEnd => Sys2Proof.Machine.execMeasureEnd s
  | .ventTimeout => Sys2Proof.Machine.execVentTimeout s
  | .valveRefresh => Sys2Proof.Machine.execValveRefresh s
  | .badRequest => Sys2Proof.Machine.execBadRequest s
  | .bind => Sys2Proof.Machine.execBind s
  | .reset => Sys2Proof.Machine.execReset s
  | .stationResetClearing => Sys2Proof.Machine.execStationResetClearing s
  | .readStatus => Sys2Proof.Machine.execReadStatus s
  | .setNotice => Sys2Proof.Machine.execSetNotice s
  | .clearNotice => Sys2Proof.Machine.execClearNotice s
  | .loadStream => Sys2Proof.Machine.execLoadStream s
  | .loadChannel => Sys2Proof.Machine.execLoadChannel s
  | .channelEnable => Sys2Proof.Machine.execChannelEnable s
  | .clearChannel => Sys2Proof.Machine.execClearChannel s
  | .readChannel => Sys2Proof.Machine.execReadChannel s
  | .readAngle => Sys2Proof.Machine.execReadAngle s
  | .clearAngle => Sys2Proof.Machine.execClearAngle s
  | .loadStand => Sys2Proof.Machine.execLoadStand s
  | .loadVariant => Sys2Proof.Machine.execLoadVariant s
  | .loadProfile => Sys2Proof.Machine.execLoadProfile s
  | .loadOrderSet => Sys2Proof.Machine.execLoadOrderSet s
  | .swapOrderSet => Sys2Proof.Machine.execSwapOrderSet s
  | .readTable => Sys2Proof.Machine.execReadTable s
  | .admitUnit => Sys2Proof.Machine.execAdmitUnit s
  | .advanceA => Sys2Proof.Machine.execAdvanceA s
  | .advanceB => Sys2Proof.Machine.execAdvanceB s
  | .release => Sys2Proof.Machine.execRelease s
  | .withdraw => Sys2Proof.Machine.execWithdraw s
  | .readUnit => Sys2Proof.Machine.execReadUnit s
  | .startSpin => Sys2Proof.Machine.execStartSpin s
  | .abortSpin => Sys2Proof.Machine.execAbortSpin s
  | .clearFaultA => Sys2Proof.Machine.execClearFaultA s
  | .startLeak => Sys2Proof.Machine.execStartLeak s
  | .abortLeak => Sys2Proof.Machine.execAbortLeak s
  | .clearFaultB => Sys2Proof.Machine.execClearFaultB s
  | .readStats => Sys2Proof.Machine.execReadStats s
  | .clearStats => Sys2Proof.Machine.execClearStats s
  | .releaseVariant => Sys2Proof.Machine.execReleaseVariant s

end Sys2Proof.Machine
end

