-- ==== Sys2Proof/Machine/Idle.lean ====
section
/-! DEFINITION. What the part does by itself while no command waits: the events that are due, and the tick of the Time Base
(R172; DESIGN CHOICE, notes/assumptions/3.md). -/

namespace Sys2Proof.Machine

/-- The row of the table in which a well-formed request is executed. -/
def Req.row : Req → Instr
  | .bind _ => .bind
  | .reset => .reset
  | .readStatus => .readStatus
  | .setNotice _ => .setNotice
  | .clearNotice _ => .clearNotice
  | .loadStream _ _ => .loadStream
  | .loadChannel _ _ => .loadChannel
  | .channelEnable _ _ _ => .channelEnable
  | .clearChannel _ => .clearChannel
  | .readChannel _ _ => .readChannel
  | .readAngle => .readAngle
  | .clearAngle => .clearAngle
  | .loadStand _ => .loadStand
  | .loadVariant _ _ => .loadVariant
  | .loadProfile _ _ => .loadProfile
  | .loadOrderSet _ _ => .loadOrderSet
  | .swapOrderSet _ => .swapOrderSet
  | .readTable _ _ => .readTable
  | .admitUnit _ _ => .admitUnit
  | .advance .a => .advanceA
  | .advance .b => .advanceB
  | .release => .release
  | .withdraw _ => .withdraw
  | .readUnit _ _ _ => .readUnit
  | .startSpin => .startSpin
  | .abortSpin => .abortSpin
  | .clearFault .a => .clearFaultA
  | .clearFault .b => .clearFaultB
  | .startLeak => .startLeak
  | .abortLeak => .abortLeak
  | .readStats _ => .readStats
  | .clearStats _ => .clearStats
  | .releaseVariant _ => .releaseVariant

/-- The row in which a queued request is executed (R166, R167). -/
def Request.row (q : Request) : Instr :=
  match q.form with
  | .ok r => r.row
  | .error _ => .badRequest

/-- An event in a list if its condition holds. -/
def eventIf (due : Bool) (c : Instr) : List Instr := if due then [c] else []

/-- The events of the part's own that are due. -/
def dueEvents (s : State) : List Instr :=
  if s.pins.resetHeld then []
  else
    eventIf s.ringDownDue .ringDownTimeout ++
      ((List.range s.streams.length).filter s.staleDue).map .staleTimeout ++
      eventIf s.assemblyDue .assemblyTimeout ++
      eventIf s.rampDue .rampEnd ++ eventIf s.settleDue .settleEnd ++ eventIf s.holdDue .holdEnd ++
      eventIf s.persistDue .speedPersistExpiry ++ eventIf s.stopDue .stopTimeout ++
      eventIf s.driveRefreshDue .driveRefresh ++
      eventIf s.fillDue .fillTimeout ++ eventIf s.leakSettleDue .leakSettleEnd ++ eventIf s.measureDue .measureEnd ++
      eventIf s.ventDue .ventTimeout ++ eventIf s.valveRefreshDue .valveRefresh ++
      eventIf s.clearingDue.isSome .stationResetClearing ++
      (match s.loader with | .replaying _ (_ :: _) _ => [.configRecordReplay] | _ => []) ++
      (match s.oldest with | some q => [q.row] | none => [])

/-- The Time Base counts one millisecond (R172). -/
def tick (s : State) : State := s.setTimeBase (s.timeBase + 1)

/-- What an idle part does next: held in reset, nothing; an event that is due, the one a free value names if there are
several; and with none due, the Time Base counts. -/
def idleNext (s : State) : Option Instr × State :=
  match dueEvents s with
  | [] => (none, if s.pins.resetHeld then s else tick s)
  | [c] => (some c, s)
  | c :: more =>
    (some ((c :: more).getD (Config.idleChoice s.freeCount % (c :: more).length) c), s.setFreeCount (s.freeCount + 1))

end Sys2Proof.Machine
end

