-- ==== Sys2Proof/Safety.lean ====
section
/-! DEFINITION. The terms in which statements about the part are made: how a command answers a request or lets an event
happen, what the jobs may change, and what every step of the part keeps. -/

namespace Sys2Proof.Machine

/-! ## Answers and events -/

/-- The code of the first reason that applies, OK when none does ("the first reason that applies decides the reply"). -/
def firstCode : List (Bool × Code) → Code
  | [] => .ok
  | (applies, c) :: rest => if applies then c else firstCode rest

/-- The oldest waiting request of `s` may begin (R166), passes the form check (R167) and reads as `r`. -/
def State.takes (s : State) (q : Request) (r : Req) : Prop := s.oldest = some q ∧ q.form = .ok r

/-- Command `c` executes the request `q` in one act (R166): the owning block leaves the state `t`, the reply `a` joins the
reply queue, and an idle line takes what it finds (R11).  That an idle line chooses only here, after all that the step
places, raises and answers, is the model's choice (notes/assumptions/37.md: DESIGN CHOICE). -/
def answers (c : Instr) (s : State) (q : Request) (a : Answer) (t : State) : Prop :=
  exec c s = .next (pump (enqueueReply t (replyTo q a)))

/-- The answer of a refusal. -/
def refusal (c : Code) : Answer := { code := c, content := [] }

/-- The answer OK with an empty payload. -/
def okEmpty : Answer := { code := .ok, content := [] }

/-- Command `c` executes `q`: refused with the first reason that applies, the request gone and nothing else changed; and
otherwise answered OK with the state `t`. -/
def answersFirst (c : Instr) (s : State) (q : Request) (reasons : List (Bool × Code)) (t : State) : Prop :=
  answers c s q (refusal (firstCode reasons)) (if firstCode reasons = .ok then t else dequeue s)

/-- Command `c` is an event that happens: its effect leaves `t`, and an idle line takes what it finds (R11).  That an idle
line chooses only here, after the whole effect, is the model's choice (notes/assumptions/37.md: DESIGN CHOICE). -/
def happens (c : Instr) (s t : State) : Prop := exec c s = .next (pump t)

/-- The rows in which a waiting request is executed (R166). -/
def requestRows : List Instr :=
  [.badRequest, .bind, .reset, .readStatus, .setNotice, .clearNotice, .loadStream, .loadChannel, .channelEnable,
   .clearChannel, .readChannel, .readAngle, .clearAngle, .loadStand, .loadVariant, .loadProfile, .loadOrderSet,
   .swapOrderSet, .readTable, .admitUnit, .advanceA, .advanceB, .release, .withdraw, .readUnit, .startSpin, .abortSpin,
   .clearFaultA, .startLeak, .abortLeak, .clearFaultB, .readStats, .clearStats, .releaseVariant]

/-- The rows that are timers of the two sequencers. -/
def jobTimers : List Instr :=
  [.rampEnd, .settleEnd, .holdEnd, .speedPersistExpiry, .driveRefresh, .stopTimeout, .fillTimeout, .leakSettleEnd,
   .measureEnd, .ventTimeout, .valveRefresh]

/-! ## What the jobs may change (R68) -/

/-- The fields of a unit record that no job writes (R68). -/
def UnitRecord.identity (u : UnitRecord) : Serial × Nat × Position × Time :=
  (u.serial, u.variantId, u.position, u.admittedAt)

/-- The part of the tables that no job writes: all but the order-set slots' content. -/
def Tables.kept (t : Tables) : Sizes × List VariantSlot × List (Option (List Segment)) × Nat :=
  (t.sizes, t.variants, t.profiles, t.orderSets.length)

/-- From `s` to `t` only what the jobs may write has changed: runtimes of channels, the Angle Unit, the sequencers, the
Order Engine, the results in unit records (R68), the content of order-set slots (R63), notice records, command slots and
the count of free values drawn. -/
structure JobStep (s t : State) : Prop where
  pins : t.pins = s.pins
  timeBase : t.timeBase = s.timeBase
  ring : t.ring = s.ring
  stand : t.stand = s.stand
  reports : t.reports = s.reports
  loader : t.loader = s.loader
  requests : t.requests = s.requests
  pending : t.pending = s.pending
  streams : t.streams = s.streams
  channels : t.channels.map (fun c => (c.config, c.acquire, c.diagnose)) =
    s.channels.map (fun c => (c.config, c.acquire, c.diagnose))
  units : t.units.map UnitRecord.identity = s.units.map UnitRecord.identity
  tables : t.tables.map Tables.kept = s.tables.map Tables.kept
  records : t.notices.records.length = s.notices.records.length
  settings : t.notices.settings = s.notices.settings
  replies : t.arbiter.replies = s.arbiter.replies
  sent : t.arbiter.sent = s.arbiter.sent

/-! ## Outcomes -/

/-- The newest drive command after `s` when the sequencer builds one with these values (R88). -/
def nextDrive (s : State) (run : Bool) (speed : Int) (ramp : Nat) (torque : Int) : DriveCommand :=
  { run := run, number := (s.runIn.commandNumber + 1) % 256, speed := if s.runIn.guardAsserted then 0 else speed,
    ramp := ramp, torque := torque }

/-- From `s` to `t` the drive command `c` was issued (R88): its number and values kept, the refresh start renewed, the
command in the drive slot; or, with a station reset holding drive commands back (R169), none of that. -/
def driveIssued (s t : State) (st : Stand) (c : DriveCommand) : Prop :=
  if s.requests.resetWait.isSome then
    t.runIn.commandNumber = s.runIn.commandNumber ∧ t.runIn.lastCommand = s.runIn.lastCommand ∧
      t.runIn.refreshStart = s.runIn.refreshStart ∧ t.arbiter.driveSlot = s.arbiter.driveSlot
  else
    t.runIn.commandNumber = c.number ∧ t.runIn.lastCommand = some c ∧ t.runIn.refreshStart = some s.timeBase ∧
      t.arbiter.driveSlot = some (st.driveNode, c)

/-- The window that an outcome finds open is closed early in HOLD; outside HOLD there is none to close (R94, R116). -/
def windowClosed (s : State) (phase : SpinPhase) : State := if phase = .hold then (closeWindow s).2 else s

/-- From `s` to `t` the Run-in Sequencer, in the run `r` and with the stand record `st`, took the outcome `o` and entered
STOPPING (R94, R97): beside the window, the stop in the record, the sequencer and the drive slot, nothing is changed. -/
structure OutcomeTaken (s : State) (st : Stand) (r : SpinRun) (o : RuninOutcome) (t : State) : Prop where
  step : JobStep s t
  frame : t = { windowClosed s r.phase with
    units := (windowClosed s r.phase).units.map (fun u => if u.position = .bayA then
      { u with tEndAt := some s.timeBase, tEnd := (s.select .oilTemp .a).bind (fun x => x.2.lastValue) } else u),
    runIn := t.runIn,
    arbiter := { s.arbiter with driveSlot := t.arbiter.driveSlot } }
  run : t.runIn.run = some { r with pending := some o, phase := .stopping, phaseStart := s.timeBase }
  segment : t.runIn.outcomeSegment = some r.segment
  guard : t.runIn.guardAsserted = s.runIn.guardAsserted
  command : driveIssued s t st (nextDrive s true 0 r.stand.stopRamp 0)
  window : if r.phase = .hold then t.engine.window = none else t.engine = s.engine ∧ t.tables = s.tables ∧
    t.notices = s.notices
  channels : t.channels = s.channels
  angle : t.angle = s.angle
  leak : t.leak = s.leak

/-- From `s` to `t` the valve command of a kind was issued (R124): number, kind, refresh start and valve slot; or, while
suppressed (R139), none of that. -/
def valveIssued (s t : State) (st : Stand) (kind : ValveKind) : Prop :=
  if s.leak.suppressed then
    t.leak.commandNumber = s.leak.commandNumber ∧ t.leak.lastCommand = s.leak.lastCommand ∧
      t.leak.refreshStart = s.leak.refreshStart ∧ t.arbiter = s.arbiter
  else
    t.leak.commandNumber = (s.leak.commandNumber + 1) % 256 ∧ t.leak.lastCommand = some kind ∧
      t.leak.refreshStart = some s.timeBase ∧
      t.arbiter = { s.arbiter with
        valveSlot := some (st.valveNode, { kind := kind, number := (s.leak.commandNumber + 1) % 256 }) }

/-- Nothing but the Leak Sequencer and the Arbiter differs between `s` and `t`. -/
def onlyLeakAndSlots (s t : State) : Prop := t = (s.setLeak t.leak).setArbiter t.arbiter

/-- From `s` to `t` the Leak Sequencer, in the test `r`, took the outcome `o` with its leak result and entered VENT
(R134). -/
structure LeakOutcomeTaken (s : State) (st : Stand) (r : LeakRun) (o : LeakOutcome) (result : Option LeakResult)
    (t : State) : Prop where
  frame : onlyLeakAndSlots s t
  run : t.leak.run = some { r with pending := some o, result := result, phase := .vent, phaseStart := s.timeBase }
  count : t.leak.count = s.leak.count
  suppressed : t.leak.suppressed = s.leak.suppressed
  command : valveIssued s t st .vent

/-! ## What every step keeps -/

/-- Every buffer, queue, table and count holds no more than its chapter gives it: the forward buffer 2 (R10), the five
frame counts 65535 (R15), the request queue 4 (R165), the reply queue 4 with room left for the reply to a RESET in
progress (R163, R166), the Report Queue 4 (R150), the Unit List 6 (R67), 16 stream entries, 24 channels and 14 notice
sources. -/
structure State.Bounded (s : State) : Prop where
  buffer : s.ring.buffer.length ≤ 2
  bad : s.ring.bad ≤ 65535
  stripped : s.ring.stripped ≤ 65535
  expired : s.ring.expired ≤ 65535
  discarded : s.ring.discarded ≤ 65535
  forwarded : s.ring.forwarded ≤ 65535
  queue : s.requests.queue.length ≤ 4
  replies : s.arbiter.replies.length ≤ 4
  replyOfReset : s.requests.resetWait.isSome = true → s.arbiter.replies.length ≤ 3
  reports : s.reports.reports.length ≤ 4
  nextReport : s.reports.next < 65536
  units : s.units.length ≤ 6
  streams : s.streams.length = 16
  channels : s.channels.length = 24
  sources : s.notices.records.length = 14

/-- The Unit List (R67): at most 6 records, no serial twice, at most one record at each bay; from oldest to newest at most
one BAY_B record, then the TRANSFER records, then at most one BAY_A record, so that of two records the older is not at
BAY_A and the newer not at BAY_B; and a sequencer outside IDLE has the record at its bay. -/
structure State.LineSound (s : State) : Prop where
  length : s.units.length ≤ 6
  serials : (s.units.map UnitRecord.serial).Nodup
  arrangement : s.units.Pairwise (fun older newer => older.position ≠ .bayA ∧ newer.position ≠ .bayB)
  bayA : s.countAt .bayA ≤ 1
  bayB : s.countAt .bayB ≤ 1
  runIn : s.runIn.run.isSome = true → (s.unitAt .bayA).isSome = true
  leak : s.leak.run.isSome = true → (s.unitAt .bayB).isSome = true

/-- The statistics of a loaded slot (R143 to R145): tested is the sum of the other three counts, no counter is above the
hold threshold, the variant is held exactly when some counter equals its nonzero threshold, and the hold checks are the
checks whose counters do. -/
structure Stats.Sound (t : Stats) (threshold : Nat) : Prop where
  sum : t.tested = t.accepted + t.rejected + t.incomplete
  runin : t.runinRejects ≤ threshold
  noise : t.noiseRejects ≤ threshold
  leak : t.leakRejects ≤ threshold
  held : t.held = true ↔
    threshold ≠ 0 ∧ (t.runinRejects = threshold ∨ t.noiseRejects = threshold ∨ t.leakRejects = threshold)
  checks : t.holdChecks = if t.held then t.atThreshold threshold else Checks.empty

/-- Every variant slot's statistics are sound, those of an empty slot zero (R142). -/
def State.StatsSound (s : State) : Prop :=
  ∀ t, s.tables = some t → ∀ slot ∈ t.variants,
    match slot.record with
    | none => slot.stats = Stats.zero
    | some v => slot.stats.Sound v.holdThreshold

/-- A reference's counts inside their values: from 1 to 2^32 - 1 sets counted in the revolution, no more in the last one,
and an angle below 65536 (R43, R44). -/
structure Track.Sound (t : Track) : Prop where
  counted : 1 ≤ t.current
  current : t.current ≤ 4294967295
  last : ∀ n, t.last = some n → 1 ≤ n ∧ n ≤ 4294967295
  angle : ∀ a, t.angle16 = some a → a < 65536

/-- The Angle Unit: only a loaded stand record gives it a reference; a reference's counts lie inside their values; in
LOCKED there are at most 2 consecutive slips, in FAULT 3; and the total slips saturate at 65535 (R38 to R44). -/
structure State.AngleSound (s : State) : Prop where
  cpr : ∀ st, s.stand = some st → 1 ≤ st.cpr
  stand : s.angle.state ≠ .noReference → s.stand.isSome = true
  total : s.angle.totalSlips ≤ 65535
  locked : ∀ t, s.angle.state = .locked t → t.consecutive ≤ 2 ∧ t.Sound
  fault : ∀ t, s.angle.state = .fault t → t.consecutive = 3 ∧ t.Sound

/-- The drive is told to turn only when it may (R88, R89, R96, R97, R169): a command with a target speed other than 0 is the
newest command only in RAMP, SETTLE or HOLD with no station reset in progress, it waits in the slot only while it is the
newest, and with the guard ASSERTED the sequencer is in none of the three. -/
structure State.DriveSound (s : State) : Prop where
  stand : s.runIn.run.isSome = true → s.stand.isSome = true
  guard : s.runIn.guardAsserted = true → ∀ r, s.runIn.run = some r → r.phase.supervised = false
  last : ∀ c, s.runIn.lastCommand = some c → c.speed ≠ 0 →
    s.requests.resetWait = none ∧ ∃ r, s.runIn.run = some r ∧ r.phase.supervised = true
  slot : ∀ n c, s.arbiter.driveSlot = some (n, c) → c.speed ≠ 0 → s.runIn.lastCommand = some c

/-- The valves are told to fill only in FILL and to isolate only in SETTLE and MEASURE (R124, R139), and a command waiting
in the valve slot is the newest. -/
structure State.ValveSound (s : State) : Prop where
  stand : s.leak.run.isSome = true → s.stand.isSome = true
  noStand : s.stand = none → s.leak.lastCommand = none
  suppressed : s.leak.suppressed = s.requests.resetWait.isSome
  reset : s.requests.resetWait.isSome = true → s.loader.loading = false ∧ s.leak.lastCommand = some .vent
  fill : s.leak.lastCommand = some .fill → ∃ r, s.leak.run = some r ∧ r.phase = .fill
  isolate : s.leak.lastCommand = some .isolate → ∃ r, s.leak.run = some r ∧ (r.phase = .settle ∨ r.phase = .measure)
  slot : ∀ n c, s.arbiter.valveSlot = some (n, c) →
    s.leak.lastCommand = some c.kind ∧ c.number = s.leak.commandNumber

end Sys2Proof.Machine
end

