-- ==== Sys2Proof/Certificates/Slice0/Obligations.lean ====
section
/-! DEFINITION. The statements about the part, for the provers; OBLIGATIONS.json lists them with the rules they rest on.

A statement made with `happens`, `answers` or `answersFirst` (Sys2Proof/Safety.lean) says what one step leaves and that an
idle line then takes what it finds.  That the line chooses at the END of the step, after all that the step places, raises
and answers, is the model's choice wherever one step offers the line more than one frame (notes/assumptions/37.md). -/

section

open Sys2Proof Sys2Proof.Machine

/-! ## Steps -/

/-- With a command waiting, a step is that command's `exec` on the state with the queue's rest. -/
def Obligations.StepTakesFrontCommand : Prop :=
  ∀ (s : State) (c : Instr) (rest : List Instr), s.pending = c :: rest → step s = exec c (s.setPending rest)

/-- With no command waiting (DESIGN CHOICE, notes/assumptions/3.md): a part held in reset does nothing; with no event due
the Time Base counts one millisecond; and otherwise one of the events that are due is taken. -/
def Obligations.IdleStepTakesADueEventOrCounts : Prop :=
  ∀ s : State, s.pending = [] →
    (s.pins.resetHeld = true → step s = .next s) ∧
    (s.pins.resetHeld = false → dueEvents s = [] → step s = .next (s.setTimeBase (s.timeBase + 1))) ∧
    (dueEvents s ≠ [] → ∃ c ∈ dueEvents s, ∃ n, (n = s.freeCount ∨ n = s.freeCount + 1) ∧
      step s = exec c (s.setFreeCount n))

/-- Every command, on every state, answers a next state, and leaves the queue of waiting commands alone. -/
def Obligations.EveryCommandAnswersANextState : Prop :=
  ∀ (c : Instr) (s : State), ∃ t, exec c s = .next t ∧ t.pending = s.pending

/-! ## Reset (R1, R172) -/

/-- The state after reset, field by field as the chapters give it; the pins, the node number, the port state and the guard
state, which the end of the reset reads, are left to `ResetsClearThePartAndStartIt`. -/
def Obligations.ResetStateHoldsTheChaptersValues : Prop :=
  let s := State.reset
  s.timeBase = 0 ∧ s.ring.buffer = [] ∧ s.ring.line = none ∧ s.ring.stamp = none ∧ s.ring.everUp = false ∧
    s.ring.bad = 0 ∧ s.ring.stripped = 0 ∧ s.ring.expired = 0 ∧ s.ring.discarded = 0 ∧ s.ring.forwarded = 0 ∧
    (∀ i, i < 16 → s.streams[i]? = some { config := none, run := StreamRun.cleared }) ∧ s.streams.length = 16 ∧
    (∀ i, i < 24 → s.channels[i]? = some Channel.unloaded) ∧ s.channels.length = 24 ∧
    s.angle = { state := .noReference, totalSlips := 0, standstill := false, history := [], historyStart := none } ∧
    s.stand = none ∧ s.tables = none ∧ s.units = [] ∧
    s.runIn.run = none ∧ s.runIn.outcomeSegment = none ∧ s.runIn.commandNumber = 0 ∧ s.runIn.lastCommand = none ∧ s.runIn.refreshStart = none ∧
    s.engine = { window := none, failSeen := false, noResultSeen := false, unavailableSeen := false } ∧
    s.leak = { run := none, count := 0, commandNumber := 0, lastCommand := none, refreshStart := none,
               suppressed := false } ∧
    s.reports = { reports := [], transmitted := 0, next := 0 } ∧
    (∀ src : Source, s.notices.record src = { occurrence := none, announced := false }) ∧
    s.notices.settings = { masked := 0, enable := true, groups := [.fault, .process, .info],
                           classes := [.reply, .notice, .report] } ∧
    s.arbiter = { driveSlot := none, valveSlot := none, replies := [], sent := 0 } ∧
    s.requests = { queue := [], assembly := none, resetWait := none } ∧ s.loader = .none

/-- POWER_ON and PIN_RESET: every block as its chapter gives it after reset, the line idle and the buffer lost; the
straps are taken at the levels last given (DESIGN CHOICE, notes/assumptions/2.md).  RESET_END of a part held in reset:
the straps give the node number and the port state, the guard line the guard state, and with a node number and the load
strap the Configuration Loader starts; a part not held is not started again.  The events' other cases follow
notes/assumptions/6.md. -/
def Obligations.ResetsClearThePartAndStartIt : Prop :=
  (∀ (s : State) (c : Instr), c ∈ [Instr.powerOn, Instr.pinReset] →
     exec c s = .next { State.reset with
       pins := { s.pins with resetHeld := true },
       ring := { State.reset.ring with node := s.pins.straps.toNat,
                                       port := if s.pins.straps = 0 then .bypass else .down },
       runIn := { State.reset.runIn with guardAsserted := s.pins.guardLow },
       freeCount := s.freeCount, pending := s.pending }) ∧
  (∀ (s : State) (straps : BitVec 4) (load asserted : Bool),
     (s.pins.resetHeld = true →
       exec (.resetEnd straps load asserted) s = .next { State.reset with
         pins := { straps := straps, loadStrap := load, resetHeld := false, guardLow := asserted },
         ring := { State.reset.ring with node := straps.toNat, port := if straps = 0 then .bypass else .down },
         runIn := { State.reset.runIn with guardAsserted := asserted },
         loader := if straps ≠ 0 ∧ load = true then .reading else .none,
         freeCount := s.freeCount, pending := s.pending }) ∧
     (s.pins.resetHeld = false → exec (.resetEnd straps load asserted) s = .next s))

/-- Held in reset, no frame, request, event or timer acts: only the guard pin's level is followed.  That level is taken
at the end of the reset (notes/assumptions/2.md). -/
def Obligations.HeldInResetNothingActs : Prop :=
  ∀ s : State, s.pins.resetHeld = true →
    (∀ asserted, exec (.guard asserted) s = .next (s.setPins { s.pins with guardLow := asserted })) ∧
    ∀ c : Instr, c ≠ .powerOn → c ≠ .pinReset → (∀ straps load asserted, c ≠ .resetEnd straps load asserted) →
      (∀ asserted, c ≠ .guard asserted) → exec c s = .next s

/-! ## The ring -/

/-- In BYPASS every frame is repeated byte for byte and nothing else changes; a fragment is not counted, nothing is
inserted, and the guard line moves only its pin.  That a frame arriving in BYPASS takes the place of one still on the
line, and that GUARD there moves only the pin, is the model's choice (DESIGN CHOICE, notes/assumptions/26.md). -/
def Obligations.BypassOnlyRepeats : Prop :=
  ∀ s : State, s.pins.resetHeld = false → s.ring.port = .bypass →
    (∀ bytes, exec (.frameArrival bytes) s =
      .next (s.setRing { s.ring with line := some { bytes := bytes, origin := .transit } })) ∧
    (s.ring.buffer = [] → pump s = s) ∧ exec .fragment s = .next s ∧
    (s.ring.buffer = [] → ∀ asserted,
      exec (.guard asserted) s = .next (s.setPins { s.pins with guardLow := asserted }))

/-- Header, payload and CRC: a frame of legal fields reads back from its bytes, bytes that pass the check are the bytes of
the frame they read as, and a good frame is forwarded with its hop limit reduced by 1 and a right CRC. -/
def Obligations.FramesReadBackAsBuilt : Prop :=
  (∀ f : Frame, f.dest < 16 → f.src < 16 → f.kind < 16 → f.hop < 16 → f.payload.length ≤ 120 →
    checkFrame f.encode = some f) ∧
  (∀ (bytes : List Byte) (f : Frame), checkFrame bytes = some f →
    f.encode = bytes ∧ f.dest < 16 ∧ f.src < 16 ∧ f.kind < 16 ∧ f.hop < 16 ∧ f.payload.length ≤ 120) ∧
  (∀ (bytes : List Byte) (f : Frame), checkFrame bytes = some f → 2 ≤ f.hop →
    checkFrame f.forwarded = some { f with hop := f.hop - 1 } ∧ 1 ≤ f.hop - 1 ∧ f.hop - 1 ≤ 14)

/-- FRAME_ARRIVAL of a good frame outside BYPASS: the first row of R5's table whose condition holds is the whole of what is
done with it; and what it is that an enabled stream entry names the frame's source node and stream number.  That the
transit frame is forwarded before the set is handed to the Stream Intake, and goes on an idle line before a notice that
the same arrival raises, is the model's choice (DEDUCED, notes/assumptions/25.md: R11 leaves either first); so is that a
returning frame of the part's own is counted as stripped (DEDUCED, notes/assumptions/42.md: R12 says otherwise). -/
def Obligations.GoodFramesAreClassifiedOnce : Prop :=
  (∀ (s : State) (src : Nat) (payload : List Byte),
    (∀ i cfg, matchStream s src payload = some (i, cfg) →
      s.enabledStream i = some cfg ∧ cfg.source = src ∧ ∃ num rest, payload = num :: rest ∧ cfg.number = num.toNat) ∧
    (matchStream s src payload = none ↔ ∀ i cfg num rest, s.enabledStream i = some cfg → payload = num :: rest →
      cfg.source ≠ src ∨ cfg.number ≠ num.toNat)) ∧
  ∀ (s : State) (bytes : List Byte) (f : Frame),
    s.pins.resetHeld = false → s.ring.port ≠ .bypass → checkFrame bytes = some f →
    let s1 := goodArrival s
    happens (.frameArrival bytes) s
      (if f.src = s.ring.node then s1.setRing { s1.ring with stripped := sat16 s.ring.stripped }
       else if f.dest = s.ring.node then
         if f.kind = 3 then receiveRequest s1 f.src f.payload
         else s1.setRing { s1.ring with discarded := sat16 s.ring.discarded }
       else if f.hop ≤ 1 then s1.setRing { s1.ring with expired := sat16 s.ring.expired }
       else
         match (if f.kind = 1 then matchStream s f.src f.payload else none) with
         | some (i, cfg) =>
           intake (if cfg.disposition = .forward then forwardFrame s1 f.forwarded else s1) i cfg f.payload
         | none => forwardFrame s1 f.forwarded)

/-- A bad frame is counted and forwarded exactly as received; a reception that ends as a fragment, or is longer than the
largest legal frame, is only counted; and the three rows of R10's table.  That a frame too short for a header and a CRC is
a bad frame like any other (DEDUCED, notes/assumptions/7.md), and that one longer than the largest legal frame is counted
as bad and not forwarded (DEDUCED, notes/assumptions/27.md), are the model's choices. -/
def Obligations.BadFramesFragmentsAndTheForwardPath : Prop :=
  (∀ (s : State) (bytes : List Byte), s.pins.resetHeld = false → s.ring.port ≠ .bypass → bytes.length ≤ 125 →
    checkFrame bytes = none →
    happens (.frameArrival bytes) s (forwardFrame (s.setRing { s.ring with bad := sat16 s.ring.bad }) bytes)) ∧
  (∀ s : State, s.pins.resetHeld = false → s.ring.port ≠ .bypass →
    happens .fragment s (s.setRing { s.ring with bad := sat16 s.ring.bad })) ∧
  (∀ (s : State) (bytes : List Byte), s.pins.resetHeld = false → s.ring.port ≠ .bypass → 125 < bytes.length →
    happens (.frameArrival bytes) s (s.setRing { s.ring with bad := sat16 s.ring.bad })) ∧
  (∀ (s : State) (bytes : List Byte), s.ring.line = none → s.ring.buffer = [] →
    forwardFrame s bytes = s.setRing { s.ring with line := some { bytes := bytes, origin := .transit },
                                                   forwarded := sat16 s.ring.forwarded }) ∧
  (∀ (s : State) (bytes : List Byte), s.ring.line ≠ none → s.ring.buffer.length < 2 →
    forwardFrame s bytes = s.setRing { s.ring with buffer := s.ring.buffer ++ [bytes] }) ∧
  (∀ (s : State) (bytes : List Byte), s.ring.line ≠ none → s.ring.buffer.length = 2 →
    forwardFrame s bytes = s.setRing { s.ring with discarded := sat16 s.ring.discarded })

/-- The port state (R13, R14): a good arrival renews the time stamp and enters UP, and RING_RESTORED is raised exactly
when that leaves DOWN and the part has been UP before; 2 ms after the stamp, RING_DOWN_TIMEOUT puts UP in DOWN, and
before that, or in DOWN, it does not come about.  An event that is not due changes nothing (notes/assumptions/6.md). -/
def Obligations.RingStateFollowsGoodArrivals : Prop :=
  (∀ s : State,
    (goodArrival s).ring = { s.ring with stamp := some s.timeBase, port := .up, everUp := true } ∧
    goodArrival s = ((if s.ring.port = .down ∧ s.ring.everUp = true then
        raise s .ringRestored none none (.stamp s.timeBase) else s).setRing (goodArrival s).ring)) ∧
  (∀ (s : State) (t : Time), s.pins.resetHeld = false → s.ring.port = .up → s.ring.stamp = some t →
    2 ≤ elapsed s.timeBase t → happens .ringDownTimeout s (s.setRing { s.ring with port := .down })) ∧
  (∀ s : State, (s.ring.port = .up → ∀ t, s.ring.stamp = some t → elapsed s.timeBase t < 2) →
    exec .ringDownTimeout s = .next s)

/-- What the idle line does (R11) and what the Arbiter offers (R161): a busy line is left alone, an idle one takes the
oldest transit frame, then the Arbiter's offer; the drive slot comes before the valve slot and both before the three
classes in class order.  Nothing is inserted in reset, in BYPASS, or between the last report of a station reset's safe
commands and its clearing (DEDUCED, notes/assumptions/12.md). -/
def Obligations.IdleLineTakesTransitThenTheOffer : Prop :=
  (∀ (s : State) (f : TxFrame), s.ring.line = some f → pump s = s) ∧
  (∀ (s : State) (frame : List Byte) (rest : List (List Byte)), s.ring.line = none → s.ring.buffer = frame :: rest →
    pump s = s.setRing { s.ring with line := some { bytes := frame, origin := .transit }, buffer := rest,
                                     forwarded := sat16 s.ring.forwarded }) ∧
  (∀ s : State, s.ring.line = none → s.ring.buffer = [] →
    pump s = if s.pins.resetHeld = true ∨ s.ring.port = .bypass ∨ s.clearingDue.isSome = true then s
      else match offer s with | none => s | some o => insertOffer s o) ∧
  (∀ (s : State) (n : Nat) (c : DriveCommand), s.arbiter.driveSlot = some (n, c) → offer s = some (.drive n c)) ∧
  (∀ (s : State) (n : Nat) (c : ValveCommand), s.arbiter.driveSlot = none → s.arbiter.valveSlot = some (n, c) →
    offer s = some (.valve n c)) ∧
  (∀ s : State, s.arbiter.driveSlot = none → s.arbiter.valveSlot = none →
    offer s = s.notices.settings.classes.findSome? (fun k => match k with
      | .reply => s.arbiter.replies.head?.map Offer.reply
      | .notice => s.notices.offer.map Offer.notice
      | .report => s.reports.reports.head?.map Offer.report))

/-- An inserted frame carries the part's own node number and hop limit 15 (R12), and the place it came from acts as its
rule states (R162, R163, R153, R158); a notice of a self-clearing source returns it to not pending, one of a latched
source makes it announced.  A reply is divided into frames of 115 content bytes, all full but the last and at least one,
each with tag, kind, code, its index and the total; together the frames' contents make up the reply's (R178).  A report is
one HEADER, ceil(summaries / 8) SUMMARY and ceil(findings / 6) FINDING segments, at most 13, each with the common fields
and at most 120 bytes; together they carry the summaries and findings in list order (R151, R152). -/
def Obligations.InsertedFramesAreThePartsOwn : Prop :=
  (∀ (node dest kind : Nat) (payload : List Byte), node < 16 → dest < 16 → kind < 16 → payload.length ≤ 120 →
    checkFrame (ownFrame node dest kind payload) =
      some { dest := dest, src := node, kind := kind, hop := 15, payload := payload }) ∧
  (∀ (s : State) (dest : Nat) (c : DriveCommand), insertOffer s (.drive dest c) =
    (s.setRing { s.ring with line := some { bytes := ownFrame s.ring.node dest 2 c.payload,
                                            origin := .drive c.number } }).setArbiter
      { s.arbiter with driveSlot := none }) ∧
  (∀ (s : State) (dest : Nat) (c : ValveCommand), insertOffer s (.valve dest c) =
    (s.setRing { s.ring with line := some { bytes := ownFrame s.ring.node dest 2 c.payload,
                                            origin := .valve c.number } }).setArbiter
      { s.arbiter with valveSlot := none }) ∧
  (∀ (s : State) (r : Reply), insertOffer s (.reply r) =
    s.setRing { s.ring with line := some { bytes := ownFrame s.ring.node r.dest 4 (r.payload s.arbiter.sent),
                                           origin := .reply } }) ∧
  (∀ (s : State) (r : Report), insertOffer s (.report r) =
    s.setRing { s.ring with line := some { bytes := ownFrame s.ring.node 0 6 (r.payload s.reports.transmitted),
                                           origin := .report r.number s.reports.transmitted } }) ∧
  (∀ (s : State) (src : Source) (o : Occurrence), s.notices.records.length = 14 →
    (s.notices.record src).occurrence = some o →
    let t := insertOffer s (.notice src)
    t.ring = { s.ring with line := some { bytes := ownFrame s.ring.node 0 5 (noticePayload src o s.timeBase),
                                          origin := .notice } } ∧
    t.notices.record src = (if src.latched = true then { occurrence := some o, announced := true }
      else { occurrence := none, announced := (s.notices.record src).announced }) ∧
    (∀ other, other ≠ src → t.notices.record other = s.notices.record other) ∧
    t = (s.setRing t.ring).setNotices t.notices ∧ t.notices.settings = s.notices.settings) ∧
  (∀ r : Reply,
    r.frames = max 1 ((r.content.length + 114) / 115) ∧
    (List.range r.frames).flatMap (fun k => (r.payload k).drop 5) = r.content ∧
    ∀ k, k < r.frames → r.frames ≤ 15 →
      r.payload k = enc2 r.tag ++ enc1 r.kind ++ enc1 r.code ++ enc1 (k * 16 + r.frames) ++ (r.payload k).drop 5 ∧
      (r.payload k).length ≤ 120 ∧ (k + 1 < r.frames → (r.payload k).length = 120)) ∧
  (∀ r : Report, r.unit.serial.length = 16 → r.unit.summaries.length ≤ 32 → r.unit.findings.length ≤ 48 →
    let m := (r.unit.summaries.length + 7) / 8
    let n := (r.unit.findings.length + 5) / 6
    let common (k type : Nat) : List Byte := enc2 r.number ++ r.unit.serial ++ enc1 (k * 16 + r.segments) ++
      enc1 ((if k + 1 = r.segments then 128 else 0) + type)
    r.segments = 1 + m + n ∧ r.segments ≤ 13 ∧ r.header.length = 53 ∧ r.payload 0 = common 0 0 ++ r.header ∧
    (∀ i, i < m → r.payload (1 + i) =
      common (1 + i) 1 ++ ((r.unit.summaries.drop (8 * i)).take 8).flatMap Summary.bytes) ∧
    (∀ i, i < n → r.payload (1 + m + i) =
      common (1 + m + i) 2 ++ ((r.unit.findings.drop (6 * i)).take 6).flatMap Finding.bytes) ∧
    (List.range m).flatMap (fun i => (r.payload (1 + i)).drop 20) = r.unit.summaries.flatMap Summary.bytes ∧
    (List.range n).flatMap (fun i => (r.payload (1 + m + i)).drop 20) = r.unit.findings.flatMap Finding.bytes ∧
    ∀ k, k < r.segments → (r.payload k).length ≤ 120)

/-- TRANSMISSION_END (R12, R161): the line falls idle and the transmitted frame is reported to the place it came from before
the line takes another; a reply or a report leaves its queue with its last frame, and a report segment counts only if it
is the present offer (R153, R154, R162, R163, R170). -/
def Obligations.TransmissionEndReportsToItsPlace : Prop :=
  ∀ (s : State) (f : TxFrame), s.pins.resetHeld = false → s.ring.line = some f →
    let u := s.setRing { s.ring with line := none }
    (f.origin = .transit ∨ f.origin = .notice → happens .transmissionEnd s u) ∧
    (∀ n, f.origin = .drive n → happens .transmissionEnd s (u.setRequests { s.requests with
      resetWait := s.requests.resetWait.map (fun w =>
        { w with driveDone := w.driveDone || decide (w.driveNumber = n) }) })) ∧
    (∀ n, f.origin = .valve n → happens .transmissionEnd s (u.setRequests { s.requests with
      resetWait := s.requests.resetWait.map (fun w =>
        { w with valveDone := w.valveDone || decide (w.valveNumber = n) }) })) ∧
    (∀ r rest, f.origin = .reply → s.arbiter.replies = r :: rest →
      happens .transmissionEnd s (u.setArbiter
        (if s.arbiter.sent + 1 < r.frames then { s.arbiter with sent := s.arbiter.sent + 1 }
         else { s.arbiter with replies := rest, sent := 0 }))) ∧
    (∀ n k r rest, f.origin = .report n k → s.reports.reports = r :: rest →
      happens .transmissionEnd s
        (if r.number = n ∧ s.reports.transmitted = k then u.setReports
          (if s.reports.transmitted + 1 < r.segments then
            { s.reports with transmitted := s.reports.transmitted + 1 }
           else { s.reports with reports := rest, transmitted := 0 })
         else u)) ∧
    (∀ n k, f.origin = .report n k → s.reports.reports = [] → happens .transmissionEnd s u)

/-! ## Notices -/

/-- A raise (R156): the source becomes pending with count 1 and this context, or counts one more occurrence up to 255 and
keeps its context; announced, every other source and all the rest of the part are unchanged. -/
def Obligations.RaiseStoresOrCounts : Prop :=
  ∀ (s : State) (src : Source) (bay : Option Bay) (serial : Option Serial) (detail : Detail),
    s.notices.records.length = 14 →
    let t := raise s src bay serial detail
    (t.notices.record src).announced = (s.notices.record src).announced ∧
    ((s.notices.record src).occurrence = none → (t.notices.record src).occurrence =
      some { count := 1, context := { bay := bay, serial := serial, detail := detail } }) ∧
    (∀ o, (s.notices.record src).occurrence = some o → (t.notices.record src).occurrence =
      some { count := if o.count < 255 then o.count + 1 else 255, context := o.context }) ∧
    (∀ other, other ≠ src → t.notices.record other = s.notices.record other) ∧
    t = s.setNotices t.notices ∧ t.notices.settings = s.notices.settings

/-- The notice offered (R157) is the eligible source that ranks first, by group in the programmed order and within a group
by number; nothing is offered exactly when no source is eligible. -/
def Obligations.OfferedNoticeRanksFirst : Prop :=
  ∀ u : Notices, u.settings.groups.Nodup → (∀ g : Group, g ∈ u.settings.groups) →
    (∀ src, u.eligible src = true ↔
      (u.record src).occurrence ≠ none ∧ (u.record src).announced = false ∧
        u.settings.masked.getLsbD src.number = false ∧ u.settings.enable = true) ∧
    (u.offer = none ↔ ∀ src, u.eligible src = false) ∧
    (∀ src, u.offer = some src → u.eligible src = true ∧
      ∀ other, u.eligible other = true → other = src ∨
        u.settings.groups.idxOf src.group < u.settings.groups.idxOf other.group ∨
        (src.group = other.group ∧ src.number < other.number))

/-- SET_NOTICE (R160) writes the four settings or is refused BAD_VALUE, settings that pass name each group and each class
once; CLEAR_NOTICE (R159) returns every named source to not pending and not announced and leaves the others. -/
def Obligations.NoticeRequestsSetAndClear : Prop :=
  (∀ s q x, s.takes q (.setNotice (some x)) →
    answers .setNotice s q okEmpty ((dequeue s).setNotices { s.notices with settings := x })) ∧
  (∀ s q, s.takes q (.setNotice none) → answers .setNotice s q (refusal .badValue) (dequeue s)) ∧
  (∀ fields x, settingsOf fields = some x →
    x.groups.Nodup ∧ x.groups.length = 3 ∧ x.classes.Nodup ∧ x.classes.length = 3) ∧
  (∀ (s : State) (q : Request) (named : BitVec 16), s.takes q (.clearNotice named) →
    ∃ t, answersFirst .clearNotice s q
        [(decide (named = 0), .badValue), (decide (16384 ≤ named.toNat), .badValue)] t ∧
      t = (dequeue s).setNotices t.notices ∧ t.notices.settings = s.notices.settings ∧
      t.notices.records.length = s.notices.records.length ∧
      ∀ i r, s.notices.records[i]? = some r →
        t.notices.records[i]? = some (if named.getLsbD i then { occurrence := none, announced := false } else r))

/-! ## Requests -/

/-- The form check (R167, R176): for each kind of fixed length the arguments pass exactly at that length; a list must have
the length its count byte says, in LOAD_ORDER_SET the list of channels, the list of orders and each order's list of
points; READ_TABLE takes an index for the kinds that are numbered and none for PARTITION and STAND; an unknown kind, or a
request without arguments of its own, is BAD_REQUEST; and a bay other than A or B is BAD_VALUE.  That READ_TABLE with an
unknown table kind passes this check with either length is the model's choice (DEDUCED, notes/assumptions/16.md). -/
def Obligations.FormCheckAllowsTheEncodedLengths : Prop :=
  (∀ (q : Request) (args : List Byte) (k n : Nat), q.args = some args → kindOf q.head = k →
    (k, n) ∈ [(0x01, 5), (0x02, 0), (0x03, 0), (0x08, 9), (0x09, 2), (0x11, 23), (0x12, 3), (0x13, 1), (0x14, 2),
      (0x18, 0), (0x19, 0), (0x20, 26), (0x21, 44), (0x24, 1), (0x30, 18), (0x31, 1), (0x32, 0), (0x33, 16), (0x34, 18),
      (0x40, 0), (0x41, 0), (0x42, 1), (0x48, 0), (0x49, 0), (0x50, 1), (0x51, 1), (0x52, 1)] →
    (q.form ≠ .error .badRequest ↔ args.length = n)) ∧
  (∀ (q : Request) (args : List Byte), q.args = some args → kindOf q.head = 0x10 →
    (q.form ≠ .error .badRequest ↔ 12 ≤ args.length ∧ args.length = 12 + (args.getD 11 0).toNat)) ∧
  (∀ (q : Request) (args : List Byte), q.args = some args → kindOf q.head = 0x22 →
    (q.form ≠ .error .badRequest ↔ 2 ≤ args.length ∧ args.length = 2 + 15 * (args.getD 1 0).toNat)) ∧
  (∀ (q : Request) (args : List Byte), q.args = some args → kindOf q.head = 0x23 →
    (q.form ≠ .error .badRequest ↔
      ∃ (head channels : List Byte) (orders : List (List Byte × List Byte)),
        head.length = 6 ∧ channels.length < 256 ∧ orders.length < 256 ∧
        (∀ o ∈ orders, o.1.length = 6 ∧ o.2.length % 4 = 0 ∧ o.2.length / 4 < 256) ∧
        args = head ++ (byteOf channels.length :: channels) ++ (byteOf orders.length ::
          orders.flatMap (fun o => o.1 ++ (byteOf (o.2.length / 4) :: o.2))))) ∧
  (∀ (q : Request) (args : List Byte), q.args = some args → kindOf q.head = 0x25 →
    (q.form ≠ .error .badRequest ↔
      (args.length = 1 ∧ ((args.getD 0 0).toNat ≤ 1 ∨ 6 ≤ (args.getD 0 0).toNat)) ∨
      (args.length = 2 ∧ 2 ≤ (args.getD 0 0).toNat))) ∧
  (∀ q : Request, q.args = none → q.form = .error .badRequest) ∧
  (∀ q : Request, kindOf q.head ∉ [0x01, 0x02, 0x03, 0x08, 0x09, 0x10, 0x11, 0x12, 0x13, 0x14, 0x18, 0x19, 0x20, 0x21,
      0x22, 0x23, 0x24, 0x25, 0x30, 0x31, 0x32, 0x33, 0x34, 0x40, 0x41, 0x42, 0x48, 0x49, 0x50, 0x51, 0x52] →
    q.form = .error .badRequest) ∧
  (∀ (q : Request) (b : Byte), q.args = some [b] → kindOf q.head = 0x31 ∨ kindOf q.head = 0x42 → b ≠ 1 → b ≠ 2 →
    q.form = .error .badValue)

/-- The request queue (R165): a request joins at the end while fewer than 4 wait, and is discarded otherwise with
REQUEST_OVERRUN, which carries its tag (0 if it is too short for one) and source node; nothing else changes.
ASSEMBLY_TIMEOUT (R177): 100 ms without a continuation pass the open assembly on, to be refused BAD_REQUEST. The parts
of a request (R177), by the part byte `p` (index in its upper, total in its lower half): a payload too short for one and
a whole request go on and leave an open assembly as it is; a first part opens an assembly; the next part of the open
assembly joins it, and the last passes the assembled request on; any other part is dropped; and a first or a dropped
part that finds an assembly open breaks it, which passes one request on to be refused BAD_REQUEST.  A consumed
REQUEST frame is handled so against the open assembly, and what it passes on joins the queue in order.  An event that is
not due changes nothing (notes/assumptions/6.md). -/
def Obligations.RequestPartsJoinAndQueue : Prop :=
  (∀ (s : State) (q : Request), s.requests.queue.length < 4 →
    enqueueRequest s q = s.setRequests { s.requests with queue := s.requests.queue ++ [q] }) ∧
  (∀ (s : State) (q : Request), 4 ≤ s.requests.queue.length →
    enqueueRequest s q = raise s .requestOverrun none none
      (.overrun (if q.head.length < 2 then 0 else (q.head.getD 0 0).toNat * 256 + (q.head.getD 1 0).toNat) q.src)) ∧
  (∀ (s : State) (a : Assembly), s.pins.resetHeld = false → s.requests.assembly = some a →
    (100 ≤ elapsed s.timeBase a.since → happens .assemblyTimeout s
      (enqueueRequest (s.setRequests { s.requests with assembly := none })
        { src := a.src, head := a.head, args := none })) ∧
    (elapsed s.timeBase a.since < 100 → exec .assemblyTimeout s = .next s)) ∧
  (∀ (s : State) (src : Nat) (payload : List Byte),
    let r := handlePart s.requests.assembly s.timeBase src payload
    receiveRequest s src payload =
      r.requests.foldl enqueueRequest (s.setRequests { s.requests with assembly := r.assembly })) ∧
  (∀ open_ now src payload, payload.length < 4 → handlePart open_ now src payload =
    { requests := [{ src := src, head := payload.take 3, args := none }], assembly := open_, dropped := false }) ∧
  (∀ open_ now src t0 t1 k (p : Byte) args, p.toNat / 16 = 0 → p.toNat % 16 = 1 →
    handlePart open_ now src (t0 :: t1 :: k :: p :: args) =
      { requests := [{ src := src, head := [t0, t1, k], args := some args }], assembly := open_, dropped := false }) ∧
  (∀ now src t0 t1 k (p : Byte) args, p.toNat / 16 = 0 → 2 ≤ p.toNat % 16 →
    handlePart none now src (t0 :: t1 :: k :: p :: args) =
      { requests := [], dropped := false,
        assembly := some { src := src, head := [t0, t1, k], total := p.toNat % 16, next := 1, args := args,
                           since := now } }) ∧
  (∀ (a : Assembly) now t0 t1 k (p : Byte) args, a.head = [t0, t1, k] → p.toNat % 16 = a.total → p.toNat / 16 = a.next →
    a.next ≠ 0 → a.next + 1 ≠ a.total →
    handlePart (some a) now a.src (t0 :: t1 :: k :: p :: args) =
      { requests := [], dropped := false,
        assembly := some { a with args := a.args ++ args, next := a.next + 1, since := now } }) ∧
  (∀ (a : Assembly) now t0 t1 k (p : Byte) args, a.head = [t0, t1, k] → p.toNat % 16 = a.total → p.toNat / 16 = a.next →
    a.next ≠ 0 → a.next + 1 = a.total →
    handlePart (some a) now a.src (t0 :: t1 :: k :: p :: args) =
      { requests := [{ src := a.src, head := a.head, args := some (a.args ++ args) }], assembly := none,
        dropped := false }) ∧
  (∀ now src t0 t1 k (p : Byte) args, ¬(p.toNat / 16 = 0 ∧ 1 ≤ p.toNat % 16) →
    handlePart none now src (t0 :: t1 :: k :: p :: args) = { requests := [], assembly := none, dropped := true }) ∧
  (∀ (a : Assembly) now src t0 t1 k (p : Byte) args, p.toNat / 16 = 0 → 2 ≤ p.toNat % 16 →
    handlePart (some a) now src (t0 :: t1 :: k :: p :: args) =
      { requests := [{ src := a.src, head := a.head, args := none }], dropped := false,
        assembly := some { src := src, head := [t0, t1, k], total := p.toNat % 16, next := 1, args := args,
                           since := now } }) ∧
  (∀ (a : Assembly) now src t0 t1 k (p : Byte) args, ¬(p.toNat / 16 = 0 ∧ 1 ≤ p.toNat % 16) →
    ¬(src = a.src ∧ a.head = [t0, t1, k] ∧ p.toNat % 16 = a.total ∧ p.toNat / 16 = a.next) →
    handlePart (some a) now src (t0 :: t1 :: k :: p :: args) =
      { requests := [{ src := a.src, head := a.head, args := none }], assembly := none, dropped := true })

/-- The oldest request may begin exactly under R166's conditions, in a part not held in reset (R172); a request row that is
not the one its kind is executed in changes nothing (notes/assumptions/6.md); and a request that fails the form check is
answered with the code of R167.  That ADVANCE and CLEAR_FAULT with a bay other than A and B are answered in the row of the
ill-formed requests, and in neither bay's row, is the model's choice (DEDUCED, notes/assumptions/18.md). -/
def Obligations.RequestsWaitForTheirTurn : Prop :=
  (∀ (s : State) (q : Request), s.oldest = some q ↔
    s.pins.resetHeld = false ∧ s.arbiter.replies.length < 4 ∧ s.requests.resetWait = none ∧
      s.loader.loading = false ∧ s.requests.queue.head? = some q) ∧
  (∀ (s : State) (c : Instr), c ∈ requestRows → s.oldest = none → exec c s = .next s) ∧
  (∀ (s : State) (q : Request) (c : Instr), c ∈ requestRows → s.oldest = some q → c ≠ q.row → exec c s = .next s) ∧
  (∀ (s : State) (q : Request) (c : Code), s.oldest = some q → q.form = .error c →
    answers .badRequest s q (refusal c) (dequeue s))

/-- RESET (R169, R101, R139): with a stand record the two safe commands are issued and placed, the Leak Sequencer is
suppressed and the wait begins; without one nothing is issued and the clearing and its reply follow at once.  That the
drive stop becomes the Run-in Sequencer's last command and renews its refresh start, as R88 has it for every new command
although the example of section 11.4 says otherwise, is the model's choice (DEDUCED, notes/assumptions/23.md). -/
def Obligations.ResetIssuesItsSafeCommands : Prop :=
  (∀ (s : State) (q : Request) (st : Stand), s.takes q .reset → s.stand = some st → s.leak.suppressed = false →
    let d : DriveCommand :=
      { run := false, number := (s.runIn.commandNumber + 1) % 256, speed := 0, ramp := 0, torque := 0 }
    let v : ValveCommand := { kind := .vent, number := (s.leak.commandNumber + 1) % 256 }
    happens .reset s
      { dequeue s with
        runIn := { s.runIn with commandNumber := d.number, lastCommand := some d, refreshStart := some s.timeBase },
        leak := { s.leak with commandNumber := v.number, lastCommand := some .vent, refreshStart := some s.timeBase,
                              suppressed := true },
        arbiter := { s.arbiter with driveSlot := some (st.driveNode, d), valveSlot := some (st.valveNode, v) },
        requests := { (dequeue s).requests with
          resetWait := some { src := q.src, tag := tagOf q.head, driveNumber := d.number, valveNumber := v.number,
                              driveDone := false, valveDone := false } } }) ∧
  (∀ (s : State) (q : Request), s.takes q .reset → s.stand = none →
    happens .reset s (enqueueReply (clearWork (dequeue s))
      { dest := q.src, tag := tagOf q.head, kind := 0x02, code := 0, content := [] }))

/-- STATION_RESET_CLEARING (R170): when both safe commands have been reported transmitted, the work is cleared as one
act and the reply to RESET joins the reply queue; block by block what is cleared and what is kept.  That the clearing
makes the Run-in Sequencer's last command and outcome segment and both refresh starts absent is the model's choice
(DEDUCED, notes/assumptions/23.md).  An event that is not due changes nothing (notes/assumptions/6.md). -/
def Obligations.StationResetClearsTheWork : Prop :=
  (∀ (s : State) (w : ResetWait), s.pins.resetHeld = false → s.requests.resetWait = some w → w.driveDone = true →
    w.valveDone = true → happens .stationResetClearing s (enqueueReply (clearWork s)
      { dest := w.src, tag := w.tag, kind := 0x02, code := 0, content := [] })) ∧
  (∀ s : State, (∀ w, s.requests.resetWait = some w → w.driveDone = false ∨ w.valveDone = false) →
    exec .stationResetClearing s = .next s) ∧
  (∀ s : State, let t := clearWork s
    t.ring = s.ring ∧ t.pins = s.pins ∧ t.timeBase = s.timeBase ∧ t.stand = s.stand ∧ t.loader = s.loader ∧
    t.arbiter = s.arbiter ∧ t.pending = s.pending ∧ t.freeCount = s.freeCount ∧
    t.requests = { s.requests with resetWait := none } ∧
    t.streams = s.streams.map (fun e => { e with run := if e.enabled.isSome then StreamRun.cleared else e.run }) ∧
    t.channels = s.channels.map (fun ch =>
      { ch with status := if ch.acquire then .waiting else .disabled, lastRaw := none, lastValue := none,
                clipCount := 0, filledCount := 0, flatRun := 0 }) ∧
    t.angle = { state := .noReference, totalSlips := 0, standstill := false, history := [], historyStart := none } ∧
    t.units = [] ∧
    t.runIn = { run := none, outcomeSegment := none, commandNumber := s.runIn.commandNumber, lastCommand := none,
                refreshStart := none, guardAsserted := s.runIn.guardAsserted } ∧
    t.engine = { window := none, failSeen := false, noResultSeen := false, unavailableSeen := false } ∧
    t.leak = { run := none, count := 0, commandNumber := s.leak.commandNumber, lastCommand := s.leak.lastCommand,
               refreshStart := none, suppressed := false } ∧
    t.reports = { reports := [], transmitted := 0, next := s.reports.next } ∧
    t.notices = { records := s.notices.records.map (fun _ => { occurrence := none, announced := false }),
                  settings := s.notices.settings } ∧
    t.tables.map Tables.kept = s.tables.map Tables.kept ∧
    ∀ n, t.orderSlot n = (s.orderSlot n).map (fun o =>
      if s.inWindow n = true ∧ o.swapPending = true then
        { active := o.shadow, shadow := o.shadow, swapPending := false } else o))

/-- The Configuration Loader (R173, R174).  An image is good exactly when it names a legal length L, the L bytes add up to
the stored sum and follow one another as records of 1 to 255 bytes; a good image is replayed, a bad one fails with detail
0 and CONFIG_LOAD_FAILED.  A stored record is handled by its part byte like a REQUEST of source node 0, against the
loader's own assembly (R177): a request it passes on is executed without a reply, and answered OK the replay goes on, or
ends in LOADED with the number of records; a record that only joins an assembly goes on too, but not as the last one; a
record refused, ill-formed, too short, breaking an assembly or a RESET ends it in FAILED with its number.  The model's
choices: a memory that ends before its image does is bad (DEDUCED, notes/assumptions/11.md), records of 121 to 255 bytes
are good (DEDUCED, notes/assumptions/22.md), the source node is 0 (DEDUCED, notes/assumptions/30.md), and a dropped record
with no assembly open goes on or fails by a free value (notes/assumptions/5.md). -/
def Obligations.LoaderChecksAndReplaysItsImage : Prop :=
  (∀ (l0 l1 s0 s1 : Byte) (rest : List Byte) (records : List (List Byte)),
    readImage (some (l0 :: l1 :: s0 :: s1 :: rest)) = some records ↔
      let len := l0.toNat * 256 + l1.toNat
      1 ≤ len ∧ len ≤ 65532 ∧ len ≤ rest.length ∧
        ((rest.take len).map BitVec.toNat).sum % 65536 = s0.toNat * 256 + s1.toNat ∧
        (∀ r ∈ records, 1 ≤ r.length ∧ r.length ≤ 255) ∧
        records.flatMap (fun r => byteOf r.length :: r) = rest.take len) ∧
  (∀ (s : State) (image : Option (List Byte)) (records : List (List Byte)), s.pins.resetHeld = false →
    s.loader = .reading → readImage image = some records →
    happens (.configImageRead image) s (s.setLoader (.replaying 1 records none))) ∧
  (∀ (s : State) (image : Option (List Byte)), s.pins.resetHeld = false → s.loader = .reading →
    readImage image = none → happens (.configImageRead image) s
      (raise (s.setLoader (.failed 0)) .configLoadFailed none none (.record 0))) ∧
  readImage none = none ∧
  (∀ (s : State) (n : Nat) (record : List Byte) (rest : List (List Byte)) (a : Option Assembly),
    s.pins.resetHeld = false → s.loader = .replaying n (record :: rest) a →
    let part := handlePart a s.timeBase 0 record
    let fails (u : State) : State := raise (u.setLoader (.failed n)) .configLoadFailed none none (.record n)
    let goesOn (u : State) (b : Option Assembly) : State :=
      match rest with
      | [] => if b.isSome then fails u else u.setLoader (.loaded n)
      | _ :: _ => u.setLoader (.replaying (n + 1) rest b)
    let drawn := s.setFreeCount (s.freeCount + 1)
    (part.dropped = true → a ≠ none → happens .configRecordReplay s (fails s)) ∧
    (part.dropped = true → a = none → happens .configRecordReplay s
      (if Config.droppedRecordGoesOn s.freeCount = true then goesOn drawn none else fails drawn)) ∧
    (part.dropped = false → part.requests = [] → happens .configRecordReplay s (goesOn s part.assembly)) ∧
    (∀ q more, part.dropped = false → part.requests = q :: more →
      (∀ r effect, q.form = .ok r → effectOf r = some effect → happens .configRecordReplay s
        (if (effect s).2.code = .ok then goesOn (effect s).1 part.assembly else fails (effect s).1)) ∧
      ((∀ r, q.form = .ok r → r = .reset) → happens .configRecordReplay s (fails s))))

/-! ## Streams and channels -/

/-- LOAD_STREAM (R16, R17): refused with the first of the six reasons; accepted, the stream of the old entry, if that was
enabled, is gone, and the entry holds the new configuration with a cleared runtime. -/
def Obligations.LoadStreamChecksAndWritesOneEntry : Prop :=
  (∀ (s : State) (q : Request) (i : Nat), s.takes q (.loadStream i none) →
    answers .loadStream s q (refusal .badValue) (dequeue s)) ∧
  (∀ (s : State) (q : Request) (i : Nat) (cfg : StreamConfig), s.takes q (.loadStream i (some cfg)) →
    let named := cfg.binding.filterMap id
    let old := match s.enabledStream i with | some c => c.binding.filterMap id | none => []
    let new := if cfg.enable then named else []
    answersFirst .loadStream s q
      [(decide (16 ≤ i), .badValue),
       (cfg.hasIndex && !cfg.hasPosition, .badValue),
       (cfg.enable && pairTaken s i cfg, .badValue),
       (!allDistinct named || (cfg.enable && channelTaken s i named), .badValue),
       ((old ++ new).any s.inUse, .inUse),
       (decide (s.angleSource = some i) && s.runIn.run.isSome, .inUse)]
      (updateStream (match s.enabledStream i with | some c => streamGone (dequeue s) i c | none => dequeue s) i
        (fun _ => { config := some cfg, run := StreamRun.cleared }))) ∧
  (∀ (s : State) (i : Nat) (cfg : StreamConfig), pairTaken s i cfg = true ↔
    ∃ j other, j ≠ i ∧ s.enabledStream j = some other ∧ other.source = cfg.source ∧ other.number = cfg.number) ∧
  (∀ (s : State) (i : Nat) (named : List Nat), channelTaken s i named = true ↔
    ∃ j other c, j ≠ i ∧ s.enabledStream j = some other ∧ c ∈ named ∧ some c ∈ other.binding) ∧
  (∀ named : List Nat, allDistinct named = true ↔ named.Nodup)

/-- LOAD_CHANNEL (R25), CHANNEL_ENABLE (R26) and CLEAR_CHANNEL (R32): their refusals, and what each makes of the channel; a
cleared acquire-enable is told to every job that had fixed the channel.  A channel is in use (R34) exactly while a
sequencer outside IDLE requires it or the open window lists it, INCLUDED or not.  The model's
choices: an enable byte other than 0 and 1 is BAD_VALUE (DEDUCED, notes/assumptions/15.md), and where two refusals apply
that the rule does not order, BAD_VALUE is answered (DESIGN CHOICE, notes/assumptions/36.md). -/
def Obligations.ChannelRequestsWriteOneChannel : Prop :=
  (∀ (s : State) (q : Request) (c : Nat), s.takes q (.loadChannel c none) →
    answers .loadChannel s q (refusal .badValue) (dequeue s)) ∧
  (∀ (s : State) (q : Request) (c : Nat) (cfg : ChannelConfig), s.takes q (.loadChannel c (some cfg)) →
    answersFirst .loadChannel s q [(decide (24 ≤ c), .badValue), (s.inUse c, .inUse)]
      (updateChannel (dequeue s) c (fun ch =>
        { config := some cfg, acquire := ch.acquire, diagnose := ch.diagnose,
          status := if ch.acquire then .waiting else .disabled, lastRaw := none, lastValue := none, clipCount := 0,
          filledCount := 0, flatRun := 0 }))) ∧
  (∀ (s : State) (q : Request) (c : Nat) (a d : Bool) (ch : Channel), s.takes q (.channelEnable c (some a) (some d)) →
    s.channels[c]? = some ch →
    let new : Channel :=
      if ch.acquire = true ∧ a = true then
        { ch with diagnose := d, flatRun := if ch.diagnose = d then ch.flatRun else 0 }
      else { ch with acquire := a, diagnose := d, status := if a then .waiting else .disabled, lastRaw := none,
                     lastValue := none, clipCount := 0, filledCount := 0, flatRun := 0 }
    let t := updateChannel (dequeue s) c (fun _ => new)
    answersFirst .channelEnable s q [(a && ch.config.isNone, .notFound)]
      (if ch.acquire = true ∧ a = false then channelLost t c else t)) ∧
  (∀ (s : State) (q : Request) (c : Nat) (a d : Option Bool), s.takes q (.channelEnable c a d) →
    a = none ∨ d = none ∨ s.channels.length ≤ c → answers .channelEnable s q (refusal .badValue) (dequeue s)) ∧
  (∀ (s : State) (q : Request) (c : Nat), s.takes q (.clearChannel c) →
    answersFirst .clearChannel s q [(decide (24 ≤ c), .badValue)] (updateChannel (dequeue s) c (fun ch =>
      { ch with clipCount := 0, filledCount := 0,
                status := (match ch.status with | .fault _ => .waiting | other => other),
                flatRun := (match ch.status with | .fault _ => 0 | _ => ch.flatRun) }))) ∧
  (∀ (s : State) (c : Nat), s.inUse c = true ↔
    (∃ r, s.runIn.run = some r ∧ (c = r.torqueChannel ∨ c = r.oilChannel)) ∨
    (∃ r, s.leak.run = some r ∧ c = r.channel) ∨
    ∃ w entry, s.engine.window = some w ∧ (c, entry) ∈ w.channels)

/-- The six READ requests (R35, R50, R66, R79, R148, R168) are refused or answered as their rules say, and change nothing
but the request queue.  The model's choices: how the fields of a reply follow one another and which optional ones have a
presence byte (DEDUCED, notes/assumptions/10.md, with 20.md, 32.md to 35.md, 39.md, 40.md and 43.md to 45.md), that
READ_TABLE of an unknown table kind is BAD_VALUE (DEDUCED, notes/assumptions/16.md), and that READ_UNIT answers BAD_VALUE
where NOT_FOUND applies too (DESIGN CHOICE, notes/assumptions/36.md). -/
def Obligations.ReadsAnswerAndChangeNothing : Prop :=
  (∀ s q, s.takes q .readStatus →
    answers .readStatus s q { code := .ok, content := statusReply (dequeue s) } (dequeue s)) ∧
  (∀ s q, s.takes q .readAngle →
    answers .readAngle s q { code := .ok, content := angleReply s } (dequeue s)) ∧
  (∀ s q selector n, s.takes q (.readChannel selector n) →
    answers .readChannel s q
      (match selector, s.channels[n]?, s.streams[n]? with
       | 0, some ch, _ => { code := .ok, content := channelReply s n ch }
       | 1, _, some e => { code := .ok, content := streamReply e }
       | _, _, _ => refusal .badValue) (dequeue s)) ∧
  (∀ s q kind i, s.takes q (.readTable kind i) →
    answers .readTable s q
      (match kind, s.tables with
       | none, _ => refusal .badValue
       | some .partition, t => { code := .ok, content := partitionReply t }
       | some .stand, _ => { code := .ok, content := encOpt Stand.bytes s.stand }
       | some _, none => refusal .notBound
       | some .variant, some t => (match t.variants[i]? with
         | none => refusal .badValue
         | some x => { code := .ok, content := encOpt Variant.bytes x.record })
       | some .profile, some t => (match t.profiles[i]? with
         | none => refusal .badValue
         | some x => { code := .ok, content := encOpt (encList Segment.bytes) x })
       | some .orderSetActive, some t => (match t.orderSets[i]? with
         | none => refusal .badValue
         | some x => { code := .ok, content := orderSlotReply x x.active ++ encBool (s.inWindow i) })
       | some .orderSetShadow, some t => (match t.orderSets[i]? with
         | none => refusal .badValue
         | some x => { code := .ok, content := orderSlotReply x x.shadow })) (dequeue s)) ∧
  (∀ s q selector ordinal serial, s.takes q (.readUnit selector ordinal serial) →
    answers .readUnit s q
      (if 3 < selector ∨ 5 < ordinal then refusal .badValue
       else match selectUnit s selector ordinal serial with
         | none => { code := .notFound, content := lineCounts s }
         | some (place, u) => { code := .ok, content := enc1 s.units.length ++ enc1 place ++ u.bytes }) (dequeue s)) ∧
  (∀ s q slot, s.takes q (.readStats slot) →
    answers .readStats s q
      (match s.tables with
       | none => refusal .notBound
       | some t => match t.variants[slot]? with
         | none => refusal .badValue
         | some x => match x.record with
           | none => { code := .ok, content := encBool false ++ Stats.zero.bytes }
           | some v =>
             { code := .ok,
               content :=
                 encBool true ++ enc1 slot ++ enc2 v.id ++ enc1 (checksBits v.required) ++ enc1 v.holdThreshold ++
                   x.stats.bytes ++ enc1 (s.units.filter (fun u => u.variantId = v.id)).length }) (dequeue s))

/-- When the arguments of a load read as a record (R16, R25, R54, R56, R58, R60, R160, R176): exactly when every field lies
inside its stated values and they are the bytes by which READ_TABLE and READ_CHANNEL show that record, so that a record
reads back byte for byte as it was loaded (R53, R66).  Arguments of a legal length that read as no record have a field
outside its values, which the owning request refuses.  The model's choices: an AMBIENT_TEMP channel's bay may be none
(DEDUCED, notes/assumptions/14.md), and a yes-or-no byte other than 0 and 1, or a set of checks with another bit, reads as
no record (DEDUCED, notes/assumptions/15.md). -/
def Obligations.RecordsReadBackAsLoaded : Prop :=
  ∀ (q : Request) (args : List Byte), q.args = some args →
  (kindOf q.head = 0x20 →
    (q.form ≠ .error .badRequest → ∃ x, q.form = .ok (.loadStand x)) ∧
    ∀ r : Stand, q.form = .ok (.loadStand (some r)) ↔ args = r.bytes ∧
      r.angleSource ≤ 15 ∧ 256 ≤ r.cpr ∧ r.cpr ≤ 65536 ∧ r.tolerance ≤ 255 ∧ r.standstillWindow ≤ 1023 ∧
      1 ≤ r.driveNode ∧ r.driveNode ≤ 15 ∧ 1 ≤ r.valveNode ∧ r.valveNode ≤ 15 ∧ 10 ≤ r.refresh ∧ r.refresh ≤ 100 ∧
      r.stopRamp ≤ 30000 ∧ 1000 ≤ r.stopTimeout ∧ r.stopTimeout ≤ 60000 ∧ r.ventThreshold ≤ 20000 ∧
      1000 ≤ r.ventTimeout ∧ r.ventTimeout ≤ 60000 ∧ -4000 ≤ r.defaultAmbient ∧ r.defaultAmbient ≤ 6000 ∧
      80000 ≤ r.patm ∧ r.patm ≤ 110000) ∧
  (kindOf q.head = 0x21 →
    (q.form ≠ .error .badRequest → ∃ x, q.form = .ok (.loadVariant (args.getD 0 0).toNat x)) ∧
    ∀ (slot : Nat) (v : Variant), q.form = .ok (.loadVariant slot (some v)) ↔ args = enc1 slot ++ v.bytes ∧ slot ≤ 255 ∧
      1 ≤ v.id ∧ v.id ≤ 65535 ∧ 5 ≤ v.pinionTeeth ∧ v.pinionTeeth ≤ 60 ∧ 20 ≤ v.ringTeeth ∧ v.ringTeeth ≤ 99 ∧
      v.pinionTeeth < v.ringTeeth ∧ v.profile ≤ 255 ∧ -4000 ≤ v.oilLimit ∧ v.oilLimit ≤ 20000 ∧
      1 ≤ v.speedTolerance ∧ v.speedTolerance ≤ 200 ∧ 50 ≤ v.speedPersist ∧ v.speedPersist ≤ 5000 ∧
      5000 ≤ v.targetPressure ∧ v.targetPressure ≤ 150000 ∧ 100 ≤ v.fillBand ∧ v.fillBand ≤ 10000 ∧
      2 * v.fillBand < v.targetPressure ∧ 1000 ≤ v.fillTimeout ∧ v.fillTimeout ≤ 600000 ∧ v.settleTime ≤ 600000 ∧
      1000 ≤ v.measureTime ∧ v.measureTime ≤ 120000 ∧ 1 ≤ v.window ∧ v.window ≤ 256 ∧ 100 ≤ v.volume ∧
      v.volume ≤ 100000 ∧ v.leakLimit ≤ 65535 ∧ 60000 ≤ v.coolingSpan ∧ v.coolingSpan ≤ 14400000 ∧
      v.retestLimit ≤ 2 ∧ v.holdThreshold ≤ 15) ∧
  (kindOf q.head = 0x22 →
    (q.form ≠ .error .badRequest → ∃ x, q.form = .ok (.loadProfile (args.getD 0 0).toNat x)) ∧
    ∀ (p : Nat) (segs : List Segment), q.form = .ok (.loadProfile p (some segs)) ↔
      args = enc1 p ++ encList Segment.bytes segs ∧ p ≤ 255 ∧ segs.length ≤ 255 ∧ ∀ g ∈ segs,
        -12000 ≤ g.target ∧ g.target ≤ 12000 ∧ g.ramp ≤ 60000 ∧ g.settle ≤ 10000 ∧ 100 ≤ g.hold ∧ g.hold ≤ 600000 ∧
        -5000 ≤ g.load ∧ g.load ≤ 5000 ∧ 1 ≤ g.torqueLimit ∧ g.torqueLimit ≤ 10000 ∧ ∀ n, g.slot = some n → n ≤ 254) ∧
  (kindOf q.head = 0x23 →
    (q.form ≠ .error .badRequest → ∃ x, q.form = .ok (.loadOrderSet (args.getD 0 0).toNat x)) ∧
    ∀ (slot : Nat) (x : OrderSet), q.form = .ok (.loadOrderSet slot (some x)) ↔ args = enc1 slot ++ x.bytes ∧ slot ≤ 255 ∧
      1 ≤ x.revs ∧ x.revs ≤ 64 ∧ 1 ≤ x.minValid ∧ x.minValid ≤ 15 ∧ 1 ≤ x.failCount ∧ x.failCount ≤ 15 ∧
      1 ≤ x.steadiness ∧ x.steadiness ≤ 500 ∧ 1 ≤ x.channels.length ∧ x.channels.length ≤ 4 ∧ x.channels.Nodup ∧
      (∀ c ∈ x.channels, c ≤ 23) ∧ 1 ≤ x.orders.length ∧ x.orders.length ≤ 255 ∧ ∀ o ∈ x.orders,
        1 ≤ o.harmonic ∧ o.harmonic ≤ 8 ∧ o.direct ≤ 4294967295 ∧
        (o.base = .direct → 1 ≤ o.direct ∧ o.direct ≤ 31457280) ∧ 2 ≤ o.curve.length ∧ o.curve.length ≤ 8 ∧
        (∀ p ∈ o.curve, p.speed ≤ 12000 ∧ p.limit ≤ 65535) ∧ o.curve.Pairwise (fun a b => a.speed < b.speed)) ∧
  (kindOf q.head = 0x10 →
    (q.form ≠ .error .badRequest → ∃ x, q.form = .ok (.loadStream (args.getD 0 0).toNat x)) ∧
    ∀ (i : Nat) (c : StreamConfig), q.form = .ok (.loadStream i (some c)) ↔ args = enc1 i ++ c.bytes ∧ i ≤ 255 ∧
      1 ≤ c.source ∧ c.source ≤ 15 ∧ c.number ≤ 7 ∧ 1 ≤ c.count ∧ c.count ≤ 8 ∧
      c.fs ∈ [3200, 6400, 12800, 25600, 51200] ∧ 1 ≤ c.stale ∧ c.stale ≤ 255 ∧ c.binding.length = c.count ∧
      ∀ n, some n ∈ c.binding → n ≤ 23) ∧
  (kindOf q.head = 0x11 →
    (q.form ≠ .error .badRequest → ∃ x, q.form = .ok (.loadChannel (args.getD 0 0).toNat x)) ∧
    ∀ (i : Nat) (c : ChannelConfig), q.form = .ok (.loadChannel i (some c)) ↔ args = enc1 i ++ c.bytes ∧ i ≤ 255 ∧
      (c.bay = none → c.role = .ambientTemp) ∧ -2147483648 ≤ c.gain ∧ c.gain ≤ 2147483647 ∧
      -2147483648 ≤ c.offset ∧ c.offset ≤ 2147483647 ∧ 1 ≤ c.clip ∧ c.clip ≤ 32767 ∧
      (c.flat = 0 ∨ (16 ≤ c.flat ∧ c.flat ≤ 4096)) ∧ -2147483648 ≤ c.rangeMin ∧ c.rangeMin ≤ c.rangeMax ∧
      c.rangeMax ≤ 2147483647) ∧
  (kindOf q.head = 0x08 →
    (q.form ≠ .error .badRequest → ∃ x, q.form = .ok (.setNotice x)) ∧
    ∀ x : NoticeSettings, q.form = .ok (.setNotice (some x)) ↔
      args = enc2 x.masked.toNat ++ encBool x.enable ++ x.groups.flatMap (fun g => enc1 g.code) ++
        x.classes.flatMap (fun c => enc1 c.code) ∧
      x.groups.length = 3 ∧ x.groups.Nodup ∧ x.classes.length = 3 ∧ x.classes.Nodup)

/-- What a channel makes of a delivered value (R28 to R31): by its status, and for a tested real value by the clip, range
and flat tests in that order.  What then becomes of the value (R23, R28): a published one reaches the Run-in Sequencer and
the Leak Sequencer with its marks, and joins what the set publishes; one that put the channel in FAULT raises
CHANNEL_FAULT with the channel's number, and the jobs are told; any other goes no further.  A channel lost to FAULT or to
a cleared acquire-enable is withdrawn from the open window (R109) and takes ABORTED, CHANNEL from each sequencer that
requires it (R93, R134), and only from those.  The flat run counts every tested real value (R30), one that fails the
range test included. -/
def Obligations.ChannelTakesAValueByItsTests : Prop :=
  (∀ (ch : Channel) raw filled, ch.config = none ∨ ch.status = .disabled → ch.take raw filled = (ch, .dropped)) ∧
  (∀ (ch : Channel) (cfg : ChannelConfig) (kind : FaultKind) raw filled, ch.config = some cfg → ch.status = .fault kind →
    ch.take raw filled =
      ({ ch with lastRaw := some raw, lastValue := some (cfg.engineering raw) }, .recorded)) ∧
  (∀ (ch : Channel) (cfg : ChannelConfig) (raw : Int), ch.config = some cfg → ch.status ≠ .disabled →
    (∀ kind, ch.status ≠ .fault kind) →
    let last : Channel := { ch with lastRaw := some raw, lastValue := some (cfg.engineering raw) }
    ch.take raw true = ({ last with status := .held, filledCount := sat16 ch.filledCount }, .published false) ∧
    (ch.diagnose = false → ch.take raw false = ({ last with status := .ok }, .published false)) ∧
    (ch.diagnose = true →
      let clipped := decide (cfg.clip ≤ raw.natAbs)
      let clips := if clipped then sat16 ch.clipCount else ch.clipCount
      let tested := cfg.role ≠ .vibration ∧ cfg.role ≠ .sound
      let run := if ch.lastRaw = some raw then (if ch.flatRun < 4096 then ch.flatRun + 1 else 4096) else 1
      let counted : Channel := { last with clipCount := clips, flatRun := run }
      ch.take raw false =
        if tested ∧ (cfg.engineering raw < cfg.rangeMin ∨ cfg.rangeMax < cfg.engineering raw) then
          ({ counted with status := .fault .range }, .faulted)
        else if 16 ≤ cfg.flat ∧ cfg.flat ≤ run then ({ counted with status := .fault .flat }, .faulted)
        else ({ counted with status := .ok }, .published clipped))) ∧
  (∀ (cfg : ChannelConfig) (raw : Int), cfg.role = .vibration ∨ cfg.role = .sound → cfg.engineering raw = raw) ∧
  (∀ (cfg : ChannelConfig) (raw : Int), cfg.role ≠ .vibration → cfg.role ≠ .sound →
    cfg.engineering raw =
      max (-2147483648) (min 2147483647 (Int.fdiv (raw * cfg.gain) 65536 + cfg.offset))) ∧
  (∀ (s : State) (c : Nat) (raw : Int) (filled : Bool),
    ((s.channels[c]?).bind Channel.config = none → channelValue s c raw filled = (s, none)) ∧
    (∀ ch cfg, s.channels[c]? = some ch → ch.config = some cfg →
      let s1 := updateChannel s c (fun _ => (ch.take raw filled).1)
      ((ch.take raw filled).2 = .dropped ∨ (ch.take raw filled).2 = .recorded →
        channelValue s c raw filled = (s1, none)) ∧
      ((ch.take raw filled).2 = .faulted → channelValue s c raw filled =
        (channelLost (raise s1 .channelFault none none (.number c)) c, none)) ∧
      (∀ clipped, (ch.take raw filled).2 = .published clipped →
        let p : Published := { channel := c, role := cfg.role, bay := cfg.bay, raw := raw,
                               value := cfg.engineering raw, clipped := clipped, filled := filled }
        channelValue s c raw filled = (leakValue (runInValue s1 p) p, some p)))) ∧
  (∀ (s : State) (c : Nat),
    let u := channelLost s c
    let told := engineWithdraw s c
    JobStep s u ∧ u.channels = s.channels ∧
    ∃ t,
      (∀ r st, s.runIn.run = some r → r.phase.supervised = true → c = r.torqueChannel ∨ c = r.oilChannel →
        s.stand = some st → OutcomeTaken told st r (.aborted .channel) t) ∧
      ((∀ r, s.runIn.run = some r → r.phase.supervised = false ∨ (c ≠ r.torqueChannel ∧ c ≠ r.oilChannel)) → t = told) ∧
      (∀ r st, s.leak.run = some r → r.phase.testing = true → c = r.channel → s.stand = some st →
        LeakOutcomeTaken t st r (.aborted .channel) none u) ∧
      ((∀ r, s.leak.run = some r → r.phase.testing = false ∨ c ≠ r.channel) → u = t))

/-- A copied set at its entry (R19 to R22): a set is malformed when its value count is not the entry's, its position flag is
not what the entry says, it carries a capture that the entry does not allow, or its length is not what count and flags
require, and otherwise reads as its sequence, values, position and capture; malformed, it is only counted; at a stream in WAITING or STALE it is a fresh
start; at a LIVE stream its sequence decides between acceptance, a filled set before it, a duplicate and a gap.  No other
stream is touched, nor anything the jobs may not write, and a filled set carries the last values, no capture and, between
two positions, the middle one.  The delivery of a set (R23): its values to the bound channels position by position, then
on the angle-source stream its position, its capture and what the channels published to the Angle Unit, and then it is the
last delivered set; a gap on the angle-source stream reaches the Angle Unit and then the Order Engine before the set that
revealed it is delivered (R20).  That bits 2 to 7 of the flags byte are not looked at is the model's choice (DEDUCED,
notes/assumptions/9.md). -/
def Obligations.SetsAreJudgedByTheirSequence : Prop :=
  (∀ (cfg : StreamConfig) (payload : List Byte), payload.length < 4 → readSet cfg payload = none) ∧
  (∀ (cfg : StreamConfig) (num q flags n : Byte) (rest : List Byte),
    readSet cfg (num :: q :: flags :: n :: rest) = none ↔
      n.toNat ≠ cfg.count ∨ flags.getLsbD 0 ≠ cfg.hasPosition ∨ (flags.getLsbD 1 = true ∧ cfg.hasIndex = false) ∨
      rest.length ≠ 2 * n.toNat + (if flags.getLsbD 0 = true then 4 else 0) +
        (if flags.getLsbD 1 = true then 4 else 0)) ∧
  (∀ (cfg : StreamConfig) (num q flags n : Byte) (values : List Int) (position capture : Option Pos),
    (∀ v ∈ values, -32768 ≤ v ∧ v ≤ 32767) → values.length = n.toNat → n.toNat = cfg.count →
    flags.getLsbD 0 = position.isSome → flags.getLsbD 1 = capture.isSome → position.isSome = cfg.hasPosition →
    (capture ≠ none → cfg.hasIndex = true) →
    let word (w : Option Pos) : List Byte := match w with | some w => enc4 w.toNat | none => []
    readSet cfg (num :: q :: flags :: n :: (values.flatMap encS2 ++ word position ++ word capture)) =
      some (q.toNat, { values := values, position := position, capture := capture })) ∧
  (∀ (last : DeliveredSet) (new : SampleSet), (filledSet last new).values = last.values ∧
    (filledSet last new).capture = none ∧ ∀ p q : Pos, last.position = some p → new.position = some q →
      (filledSet last new).position = some (p + BitVec.ofInt 32 (Int.fdiv (signedDiff q p) 2))) ∧
  (∀ (s : State) (i : Nat) (e : StreamEntry) (cfg : StreamConfig) (payload : List Byte), s.streams[i]? = some e →
    let u := intake s i cfg payload
    let r := e.run
    let run (s : State) (f : StreamRun → StreamRun) : State := updateStream s i (fun y => { y with run := f y.run })
    let accept (s : State) (q : Nat) (set : SampleSet) : State :=
      deliver (run s (fun r => { r with state := .live, expected := some ((q + 1) % 256),
                                        lastArrival := some s.timeBase, accepted := sat16 r.accepted })) i cfg set false
    JobStep (s.setStreams u.streams) u ∧ (∀ j, j ≠ i → u.streams[j]? = s.streams[j]?) ∧
    (readSet cfg payload = none → u = run s (fun r => { r with malformed := sat16 r.malformed })) ∧
    (∀ q set, readSet cfg payload = some (q, set) →
      (r.state ≠ .live → u = accept s q set) ∧
      (∀ x, r.state = .live → r.expected = some x →
        (q = x → u = accept s q set) ∧
        (∀ last, q ≠ x → q = (x + 1) % 256 → r.last = some last → u =
          accept (deliver (run s (fun r => { r with filled := sat16 r.filled })) i cfg (filledSet last set) true) q set) ∧
        (q ≠ x → q ≠ (x + 1) % 256 → q = (x + 255) % 256 →
          u = run s (fun r => { r with duplicate := sat16 r.duplicate })) ∧
        (q ≠ x → q ≠ (x + 1) % 256 → q ≠ (x + 255) % 256 →
          u = accept (gapEvent (run s (fun r => { r with gap := sat16 r.gap })) i) q set)))) ∧
  (∀ (s : State) (i : Nat) (e : StreamEntry) (cfg : StreamConfig) (payload : List Byte), s.streams[i]? = some e →
    let after := (intake s i cfg payload).streams[i]?
    let r := e.run
    let taken (r : StreamRun) (q : Nat) (set : SampleSet) : StreamRun :=
      { r with state := .live, expected := some ((q + 1) % 256), lastArrival := some s.timeBase,
               accepted := sat16 r.accepted, last := some { values := set.values, position := set.position } }
    ∀ q set, readSet cfg payload = some (q, set) →
      (r.state ≠ .live → after = some { e with run := taken r q set }) ∧
      (∀ x, r.state = .live → r.expected = some x →
        (q = x → after = some { e with run := taken r q set }) ∧
        (q ≠ x → q = (x + 1) % 256 → r.last ≠ none →
          after = some { e with run := taken { r with filled := sat16 r.filled } q set }) ∧
        (q ≠ x → q ≠ (x + 1) % 256 → q ≠ (x + 255) % 256 →
          after = some { e with run := taken { r with gap := sat16 r.gap } q set }))) ∧
  (∀ (s : State) (i : Nat),
    (s.angleSource = some i → gapEvent s i = engineBreak (loseReference s)) ∧
    (s.angleSource ≠ some i → gapEvent s i = s)) ∧
  (∀ (s : State) (i : Nat) (cfg : StreamConfig) (set : SampleSet) (filled : Bool),
    let given := deliverValues s filled cfg.binding set.values
    let followed := match set.position with
      | some pos => if s.angleSource = some i then angleSet given.1 pos set.capture filled given.2 else given.1
      | none => given.1
    deliver s i cfg set filled = updateStream followed i (fun y =>
      { y with run := { y.run with last := some { values := set.values, position := set.position } } })) ∧
  (∀ (s : State) (filled : Bool) (c : Nat) (raw : Int) (bindings : List (Option Nat)) (raws : List Int),
    deliverValues s filled [] raws = (s, []) ∧ deliverValues s filled bindings [] = (s, []) ∧
    deliverValues s filled (none :: bindings) (raw :: raws) = deliverValues s filled bindings raws ∧
    (let one := channelValue s c raw filled
     let rest := deliverValues one.1 filled bindings raws
     deliverValues s filled (some c :: bindings) (raw :: raws) = (rest.1, one.2.toList ++ rest.2)))

/-- STALE_TIMEOUT (R24): the stream goes STALE and keeps its counts, its last arrival and its last set; every bound
channel that is acquire-enabled and not in FAULT goes STALE; STREAM_STALE is pending; and the jobs hear of it.  Before
the timeout, and in any other state, it does not come about.  An event that is not due changes nothing
(notes/assumptions/6.md). -/
def Obligations.StaleTimeoutEndsAStream : Prop :=
  (∀ (s : State) (i : Nat) (e : StreamEntry) (cfg : StreamConfig) (t : Time), s.pins.resetHeld = false →
    s.streams[i]? = some e → e.config = some cfg → cfg.enable = true → e.run.state = .live →
    e.run.lastArrival = some t → cfg.stale ≤ elapsed s.timeBase t → s.notices.records.length = 14 →
    ∃ u, happens (.staleTimeout i) s u ∧
      JobStep (s.setStreams u.streams) u ∧
      u.streams[i]? = some { e with run := { e.run with state := .stale, expected := none } } ∧
      (∀ j, j ≠ i → u.streams[j]? = s.streams[j]?) ∧
      (∀ c ch, s.channels[c]? = some ch →
        (some c ∈ cfg.binding → ch.acquire = true → (∀ kind, ch.status ≠ .fault kind) →
          u.channels[c]? = some { ch with status := .stale }) ∧
        (some c ∉ cfg.binding ∨ ch.acquire = false ∨ (∃ kind, ch.status = .fault kind) → u.channels[c]? = some ch)) ∧
      (u.notices.record .streamStale).occurrence ≠ none ∧
      (s.angleSource = some i → (∀ track, u.angle.state ≠ .locked track) ∧ u.angle.standstill = false ∧
        u.angle.history = [] ∧ u.angle.historyStart = none) ∧
      (∀ r, s.runIn.run = some r → r.phase.supervised = true →
        s.angleSource = some i ∨ some r.torqueChannel ∈ cfg.binding ∨ some r.oilChannel ∈ cfg.binding →
        ∃ r', u.runIn.run = some r' ∧ r'.phase = .stopping ∧ r'.pending = some (.aborted .stream)) ∧
      (∀ r, s.leak.run = some r → r.phase.testing = true → some r.channel ∈ cfg.binding →
        ∃ r', u.leak.run = some r' ∧ r'.phase = .vent ∧ r'.pending = some (.aborted .stream))) ∧
  (∀ (s : State) (i : Nat) (e : StreamEntry), s.streams[i]? = some e →
    (e.run.state ≠ .live ∨ (∀ cfg t, e.config = some cfg → e.run.lastArrival = some t →
      elapsed s.timeBase t < cfg.stale)) → exec (.staleTimeout i) s = .next s)

/-! ## Shaft angle and speed -/

/-- In INDEX mode a capture is a regular boundary or a slip by its spacing (R39), and a position too far from the reference
is a missing index or, carried, a boundary (R40).  A set takes the capture step, where it has a capture, and then the
position step (R38): a third consecutive slip at the capture step ends its handling (R41); in WRAP mode the position step
is alone and counts no slip.  That a set at which both steps act passes one event, the position step's, is the model's
choice (DEDUCED, notes/assumptions/8.md). -/
def Obligations.MarkerSpacingMakesBoundariesAndSlips : Prop :=
  (∀ (st : Stand) (t : Track) (capture : Pos), let d := signedDiff capture t.reference
    ((st.cpr : Int) - st.tolerance ≤ d.natAbs ∧ (d.natAbs : Int) ≤ st.cpr + st.tolerance → captureStep st t capture =
      ({ t with reference := capture, direction := if 0 ≤ d then .forward else .reverse, carried := false,
                consecutive := 0, moved := true }, .closed .capture)) ∧
    (¬((st.cpr : Int) - st.tolerance ≤ d.natAbs ∧ (d.natAbs : Int) ≤ st.cpr + st.tolerance) → captureStep st t capture =
      ({ t with reference := capture, carried := false, consecutive := t.consecutive + 1, moved := true },
       .slipped .capture))) ∧
  (∀ (st : Stand) (t : Track) (pos : Pos), let e := signedDiff pos t.reference
    let moved : Track := { t with
      reference := if 0 ≤ e then t.reference + BitVec.ofNat 32 st.cpr else t.reference - BitVec.ofNat 32 st.cpr,
      direction := if 0 ≤ e then .forward else .reverse, moved := true }
    (e.natAbs ≤ st.cpr + st.tolerance → indexStep st t pos = (t, .none)) ∧
    (st.cpr + st.tolerance < e.natAbs → t.carried = false →
      indexStep st t pos = ({ moved with carried := true, consecutive := t.consecutive + 1 }, .slipped .threshold)) ∧
    (st.cpr + st.tolerance < e.natAbs → t.carried = true → indexStep st t pos = (moved, .closed .threshold))) ∧
  (∀ (st : Stand) (t : Track) (pos : Pos) (capture : Option Pos), t.consecutive ≤ 2 →
    let slips (turn : Turn) : Nat := match turn with | .slipped _ => 1 | _ => 0
    (st.mode = .wrap →
      moveSteps st t pos capture = ((wrapStep st t pos).1, (wrapStep st t pos).2, 0)) ∧
    (st.mode = .index → capture = none →
      let p := indexStep st t pos
      moveSteps st t pos capture = (p.1, p.2, slips p.2)) ∧
    (∀ at_, st.mode = .index → capture = some at_ →
      let c := captureStep st t at_
      let p := indexStep st c.1 pos
      (c.1.consecutive = 3 → moveSteps st t pos capture = (c.1, .slipped .capture, 1)) ∧
      (c.1.consecutive ≠ 3 → p.2 = .none → moveSteps st t pos capture = (p.1, c.2, slips c.2)) ∧
      (c.1.consecutive ≠ 3 → p.2 ≠ .none → moveSteps st t pos capture = (p.1, p.2, slips c.2 + slips p.2))))

/-- The third consecutive slip (R41) passes a slip event to the Order Engine, puts the unit in FAULT, raises ANGLE_FAULT
with the serial at BAY_A and the angle source's number, and aborts the run-in with cause ANGLE; in FAULT a set moves
nothing but the standstill detection (R38); CLEAR_ANGLE leads from FAULT to NO_REFERENCE and is NOT_ACTIVE elsewhere
(R49).  A lost reference (R48) leads from LOCKED, and only from there, to NO_REFERENCE.  That the fields of FAULT stand as
they do at the third slip, by the steps of one set as log 8 has them, is the model's choice (DEDUCED,
notes/assumptions/21.md, notes/assumptions/8.md). -/
def Obligations.ThirdSlipFaultsUntilCleared : Prop :=
  (∀ (s : State) (st : Stand) (fs : Nat) (t : Track) pos capture filled values, s.notices.records.length = 14 →
    s.angle.state = .locked t → (moveSteps st t pos capture).1.consecutive = 3 →
    let u := followSet s st fs pos capture filled values
    let m := moveSteps st t pos capture
    let total := if m.2.2 = 0 then s.angle.totalSlips else min 65535 (s.angle.totalSlips + m.2.2)
    let told := engineBreak s
    let faulted := told.setAngle { s.angle with totalSlips := total, state := .fault m.1 }
    u.angle.state = .fault m.1 ∧ (u.notices.record .angleFault).occurrence ≠ none ∧
    u = takeOutcome (runInLostLock
      (raise faulted .angleFault (some .a) (s.serialAt .bayA) (.number st.angleSource))) (.aborted .angle)) ∧
  (∀ (s : State) (st : Stand) (fs : Nat) (t : Track) pos capture filled values, s.angle.state = .fault t →
    followSet s st fs pos capture filled values = s) ∧
  (∀ (s : State) (q : Request) (t : Track), s.takes q .clearAngle → s.angle.state = .fault t →
    answers .clearAngle s q okEmpty ((dequeue s).setAngle { s.angle with state := .noReference })) ∧
  (∀ (s : State) (q : Request), s.takes q .clearAngle → (∀ t, s.angle.state ≠ .fault t) →
    answers .clearAngle s q (refusal .notActive) (dequeue s)) ∧
  (∀ (s : State),
    (∀ t, s.angle.state = .locked t →
      loseReference s = runInLostLock (s.setAngle { s.angle with state := .noReference })) ∧
    ((∀ t, s.angle.state ≠ .locked t) → loseReference s = s))

/-- In WRAP mode (R42) the reference ends less than CPR from the position after every set, moved by whole multiples of CPR;
a set that moves it makes one boundary, in the direction of the move, and a set that does not makes none.
The angle step (R43): the direction is taken afresh only while the reference has not moved, the angle is measured from
the reference in that direction, and it lies in 0..65535. -/
def Obligations.WrapReferenceAndAngleStayNear : Prop :=
  (∀ (st : Stand) (t : Track) (pos : Pos), 256 ≤ st.cpr → st.cpr ≤ 65536 →
     let e := signedDiff pos t.reference
     let w := wrapStep st t pos
     (signedDiff pos w.1.reference).natAbs < st.cpr ∧
     (e.natAbs < st.cpr → w = (t, .none)) ∧
     (st.cpr ≤ e.natAbs → w.2 = .closed .threshold ∧
       ∃ k : Nat, 1 ≤ k ∧ w.1 = { t with
         reference := if 0 ≤ e then t.reference + BitVec.ofNat 32 (k * st.cpr)
                      else t.reference - BitVec.ofNat 32 (k * st.cpr),
         direction := if 0 ≤ e then .forward else .reverse, moved := true })) ∧
  (∀ (st : Stand) (t : Track) (pos : Pos), 1 ≤ st.cpr →
     let dir := if t.moved then t.direction else if 0 ≤ signedDiff pos t.reference then .forward else .reverse
     let p := (match dir with
       | .forward => (pos - t.reference).toNat
       | .reverse => (t.reference - pos).toNat) % st.cpr
     angleStep st t pos = { t with direction := dir, angle16 := some (p * 65536 / st.cpr) } ∧ p < st.cpr ∧
       p * 65536 / st.cpr < 65536)

/-- The counting step (R44, R47) and the shaft speed (R45): a closed revolution keeps its count, is timed exactly when it
begins and ends at the same kind of point, and passes the one boundary event; the published speed is the last
revolution's, pulled down by the revolution in progress, in the direction of travel.  The order of a set (R38, R47): with
a source, standstill detection; then by state, where NO_REFERENCE locks at a capture, or in WRAP mode at the position,
and LOCKED takes the steps of `MarkerSpacingMakesBoundariesAndSlips` and counts their slips; then the angle step, the counting step, the
event to the Order Engine, the shaft speed to the Run-in Sequencer and the angle record, with its angle, filled mark and
direction, to the Order Engine; and at the end the Run-in Sequencer sees whether the shaft stands still (R98).  That a
set passes one event where two steps act is the model's choice (DEDUCED, notes/assumptions/8.md). -/
def Obligations.RevolutionsAreCountedAndTimed : Prop :=
  (∀ (fs : Nat) (t : Track), countingStep fs t .none =
    ({ t with current := if t.current < 4294967295 then t.current + 1 else 4294967295 }, none)) ∧
  (∀ (fs : Nat) (t : Track) (kind : PointKind), countingStep fs t (.slipped kind) =
    ({ t with current := 1, startKind := kind }, none)) ∧
  (∀ (fs : Nat) (t : Track) (kind : PointKind),
    let magnitude : Int := ((240 * fs / t.current : Nat) : Int)
    let speed : Option Int := if t.startKind = kind then
      some (match t.direction with | .forward => magnitude | .reverse => -magnitude) else none
    countingStep fs t (.closed kind) =
      ({ t with last := some t.current, revolutions := t.revolutions + 1, current := 1, startKind := kind,
                revSpeed := match speed with | some v => some v | none => t.revSpeed },
       some { revolutions := t.revolutions + 1, count := t.current, speed := speed, direction := t.direction })) ∧
  (∀ (fs : Nat) (t : Track), t.revSpeed = none → shaftSpeedOf fs t = none) ∧
  (∀ (fs : Nat) (t : Track) (v : Int), t.revSpeed = some v → ∃ w, shaftSpeedOf fs t = some w ∧
    w.natAbs = min v.natAbs (240 * fs / t.current) ∧ (t.direction = .forward → 0 ≤ w) ∧
    (t.direction = .reverse → w ≤ 0)) ∧
  (∀ (s : State) (pos : Pos) (capture : Option Pos) (filled : Bool) (values : List Published),
    (s.stand = none ∨ s.source = none → angleSet s pos capture filled values = s) ∧
    (∀ st cfg, s.stand = some st → s.source = some cfg → angleSet s pos capture filled values =
      runInStandstill (followSet (s.setAngle (s.angle.detect st.standstillWindow s.timeBase pos)) st cfg.fs pos capture
        filled values))) ∧
  (∀ (s : State) (st : Stand) (fs : Nat) (pos : Pos) (capture : Option Pos) (filled : Bool) (values : List Published),
    let u := followSet s st fs pos capture filled values
    let fresh (reference : Pos) (kind : PointKind) : Track :=
      { reference := reference, carried := false, direction := .forward, moved := false, revolutions := 0, current := 0,
        last := none, startKind := kind, revSpeed := none, shaftSpeed := none, angle16 := none, consecutive := 0 }
    (s.angle.state = .noReference →
      (st.mode = .index → capture = none → u = s) ∧
      (∀ at_, st.mode = .index → capture = some at_ →
        u = finishSet s st fs (fresh at_ .capture) .none pos filled values) ∧
      (st.mode = .wrap → u = finishSet s st fs (fresh pos .threshold) .none pos filled values)) ∧
    (∀ t, s.angle.state = .locked t → (moveSteps st t pos capture).1.consecutive ≠ 3 →
      let m := moveSteps st t pos capture
      let total := if m.2.2 = 0 then s.angle.totalSlips else min 65535 (s.angle.totalSlips + m.2.2)
      u = finishSet (s.setAngle { s.angle with totalSlips := total }) st fs m.1 m.2.1 pos filled values)) ∧
  (∀ (s : State) (st : Stand) (fs : Nat) (t : Track) (turn : Turn) (pos : Pos) (filled : Bool) (values : List Published),
    let counted := countingStep fs (angleStep st t pos) turn
    let t' : Track := { counted.1 with shaftSpeed := shaftSpeedOf fs counted.1 }
    let s1 := s.setAngle { s.angle with state := .locked t' }
    let told := match turn, counted.2 with
      | .closed _, some event => engineBoundary s1 event
      | .slipped _, _ => engineBreak s1
      | _, _ => s1
    ∀ angle16, t'.angle16 = some angle16 → finishSet s st fs t turn pos filled values =
      engineRecord (runInSpeed told t'.shaftSpeed)
        { angle16 := angle16, filled := filled, direction := t'.direction } values)

/-- Standstill (R46): the flag is set exactly when the newest arrival is at least 100 after the history start and no two
positions of the last 100 ms lie further apart, as signed differences from the newest, than the standstill window.  That
the history start is compared by elapsed time modulo 2^32, as R172 has it for timers, is the model's choice (DEDUCED,
notes/assumptions/29.md). -/
def Obligations.StandstillNeedsAHundredStillMilliseconds : Prop :=
  ∀ (u : Angle) (window : Nat) (now : Time) (pos : Pos),
    let t := u.detect window now pos
    let start := match u.historyStart with | some x => x | none => now
    t.history = (u.history ++ [(now, pos)]).filter (fun h => decide (elapsed now h.1 ≤ 100)) ∧
    t.historyStart = some start ∧ t.state = u.state ∧ t.totalSlips = u.totalSlips ∧
    (t.standstill = true ↔ 100 ≤ elapsed now start ∧
      ∀ a ∈ t.history, ∀ b ∈ t.history, signedDiff a.2 pos - signedDiff b.2 pos ≤ window)

/-! ## Table Memory -/

/-- BIND, LOAD_STAND, LOAD_VARIANT, LOAD_PROFILE and LOAD_ORDER_SET (R51, R54 to R56, R58, R60): each refused with the first
of its reasons, NOT_BOUND coming first where it applies (R52), and accepted writing one whole entry.  That LOAD_STAND
answers BAD_VALUE where IN_USE applies too is the model's choice (DESIGN CHOICE, notes/assumptions/36.md). -/
def Obligations.TableRequestsCheckAndWrite : Prop :=
  (∀ (s : State) (q : Request) (z : Sizes), s.takes q (.bind z) →
    answersFirst .bind s q
      [(s.tables.isSome, .alreadyBound),
       (!decide (1 ≤ z.v ∧ z.v ≤ 64 ∧ 1 ≤ z.p ∧ z.p ≤ 16 ∧ 1 ≤ z.s ∧ z.s ≤ 32 ∧ 1 ≤ z.o ∧ z.o ≤ 8 ∧ 1 ≤ z.k ∧ z.k ≤ 16),
        .badValue),
       (decide (4096 < 16 * z.v + z.p * (2 + 4 * z.s) + 2 * z.o * (4 + 10 * z.k)), .noSpace)]
      ((dequeue s).setTables (some
        { sizes := z, variants := List.replicate z.v { record := none, stats := Stats.zero },
          profiles := List.replicate z.p none,
          orderSets := List.replicate z.o { active := none, shadow := none, swapPending := false } }))) ∧
  (∀ (s : State) (q : Request), s.takes q (.loadStand none) →
    answers .loadStand s q (refusal .badValue) (dequeue s)) ∧
  (∀ (s : State) (q : Request) (r : Stand), s.takes q (.loadStand (some r)) →
    let lost : Angle := match s.angle.state with | .locked _ => { s.angle with state := .noReference } | _ => s.angle
    let angle : Angle := match s.stand with
      | none => s.angle
      | some old =>
        let a := if old.angleSource = r.angleSource ∧ old.cpr = r.cpr ∧ old.mode = r.mode ∧ old.tolerance = r.tolerance
          then s.angle else lost
        if old.angleSource = r.angleSource then a
        else { a with standstill := false, history := [], historyStart := none }
    answersFirst .loadStand s q
      [(decide (r.driveNode = s.ring.node) || decide (r.valveNode = s.ring.node), .badValue),
       (s.runIn.run.isSome || s.leak.run.isSome, .inUse)]
      (((dequeue s).setAngle angle).setStand (some r))) ∧
  (∀ (s : State) (q : Request), s.tables = none →
    (∀ slot v, s.takes q (.loadVariant slot v) → answers .loadVariant s q (refusal .notBound) (dequeue s)) ∧
    (∀ p x, s.takes q (.loadProfile p x) → answers .loadProfile s q (refusal .notBound) (dequeue s)) ∧
    (∀ slot x, s.takes q (.loadOrderSet slot x) → answers .loadOrderSet s q (refusal .notBound) (dequeue s))) ∧
  (∀ (s : State) (q : Request), s.tables ≠ none →
    (∀ slot, s.takes q (.loadVariant slot none) → answers .loadVariant s q (refusal .badValue) (dequeue s)) ∧
    (∀ p, s.takes q (.loadProfile p none) → answers .loadProfile s q (refusal .badValue) (dequeue s)) ∧
    (∀ slot, s.takes q (.loadOrderSet slot none) → answers .loadOrderSet s q (refusal .badValue) (dequeue s))) ∧
  (∀ (s : State) (q : Request) (t : Tables) (slot : Nat) (v : Variant), s.tables = some t →
    s.takes q (.loadVariant slot (some v)) →
    answersFirst .loadVariant s q
      [(decide (t.variants.length ≤ slot) || decide (t.sizes.p ≤ v.profile), .badValue),
       ((match (t.variants[slot]?).bind VariantSlot.record with
         | some old => s.units.any (fun u => u.variantId = old.id)
         | none => false), .inUse),
       (idTaken v.id slot t.variants, .badValue)]
      ((dequeue s).setTables (some { t with
        variants := modifyAt (fun _ => { record := some v, stats := Stats.zero }) t.variants slot }))) ∧
  (∀ id slot variants, idTaken id slot variants = true ↔
    ∃ (j : Nat) (x : VariantSlot) (v : Variant), j ≠ slot ∧ variants[j]? = some x ∧ x.record = some v ∧ v.id = id) ∧
  (∀ (s : State) (q : Request) (t : Tables) (p : Nat) (segs : List Segment), s.tables = some t →
    s.takes q (.loadProfile p (some segs)) →
    answersFirst .loadProfile s q
      [(decide (t.sizes.p ≤ p) || decide (segs.length = 0) || decide (t.sizes.s < segs.length) ||
          segs.any (fun seg => match seg.slot with | some n => decide (t.sizes.o ≤ n) | none => false), .badValue),
       (s.runIn.run.isSome && (match s.variantAtA with | some v => decide (v.profile = p) | none => false), .inUse)]
      ((dequeue s).setTables (some { t with profiles := modifyAt (fun _ => some segs) t.profiles p }))) ∧
  (∀ (s : State) (q : Request) (t : Tables) (slot : Nat) (set : OrderSet), s.tables = some t →
    s.takes q (.loadOrderSet slot (some set)) →
    answersFirst .loadOrderSet s q
      [(decide (t.sizes.o ≤ slot) || decide (t.sizes.k < set.orders.length), .badValue)]
      ((dequeue s).setTables (some { t with
        orderSets := modifyAt (fun o => { o with shadow := some set }) t.orderSets slot })))

/-- SWAP_ORDER_SET (R62, R63): out of any window the shadow is copied over the active copy at once and ORDER_SET_SWAPPED
raised with the slot number; in a window the swap is left pending and the active copy stays.  That an idle line chooses
between the reply and the notice only at the end of the step is the model's choice (notes/assumptions/37.md). -/
def Obligations.SwapWaitsForTheWindow : Prop :=
  (∀ (s : State) (q : Request) (slot : Nat), s.takes q (.swapOrderSet slot) → s.tables = none →
    answers .swapOrderSet s q (refusal .notBound) (dequeue s)) ∧
  (∀ (s : State) (q : Request) (slot : Nat) (t : Tables), s.takes q (.swapOrderSet slot) → s.tables = some t →
    t.orderSets.length ≤ slot → answers .swapOrderSet s q (refusal .badValue) (dequeue s)) ∧
  (∀ (s : State) (q : Request) (slot : Nat) (t : Tables) (o : OrderSlot), s.takes q (.swapOrderSet slot) →
    s.tables = some t → t.orderSets[slot]? = some o →
    let change (x : OrderSlot) : State :=
      (dequeue s).setTables (some { t with orderSets := modifyAt (fun _ => x) t.orderSets slot })
    answersFirst .swapOrderSet s q [(o.shadow.isNone, .notFound)]
      (if (match s.engine.window with | some w => decide (w.slot = slot) | none => false) = true then
        change { o with swapPending := true }
       else raise (change { active := o.shadow, shadow := o.shadow, swapPending := false }) .orderSetSwapped none none
         (.number slot)))

/-! ## Units on the line, verdicts and statistics -/

/-- ADMIT (R70, R71): refused with the first of the seven reasons; accepted, a fresh record joins the end of the list at
BAY_A. -/
def Obligations.AdmitChecksAndAppends : Prop :=
  (∀ (s : State) (q : Request) (serial : Serial) (id : Nat), s.takes q (.admitUnit serial id) →
    answersFirst .admitUnit s q
      [(s.tables.isNone, .notBound),
       (serial.any (fun b => b.toNat < 0x20 || 0x7E < b.toNat) || serial.all (fun b => b = 0x20), .badValue),
       (s.units.any (fun u => u.position = .bayA), .bayOccupied),
       (decide (6 ≤ s.units.length), .lineFull),
       ((s.lookup id).isNone, .noVariant),
       ((match s.lookup id with | some x => x.2.2.held | none => false), .variantHeld),
       (s.units.any (fun u => u.serial = serial), .duplicateSerial)]
      ((dequeue s).setUnits (s.units ++ [
        { serial := serial, variantId := id, position := .bayA, admittedAt := s.timeBase, runin := .notRun,
          endSegment := none, stopTimeout := none, noise := .notRun, leak := .notRun, retests := 0, tEnd := none,
          tEndAt := none, maxTorque := none, maxOil := none, guardTime := none, summaries := [], findings := [],
          truncated := false, leakResult := none }]))) ∧
  (∀ (s : State) (id n : Nat) (v : Variant) (stats : Stats), s.lookup id = some (n, v, stats) →
    v.id = id ∧ ∃ t, s.tables = some t ∧ t.variants[n]? = some { record := some v, stats := stats })

/-- ADVANCE (R72, R73): bay A's record moves to TRANSFER; the oldest record at TRANSFER moves to BAY_B; every record keeps
its place in the list. -/
def Obligations.AdvanceMovesOneRecord : Prop :=
  (∀ (s : State) (q : Request), s.takes q (.advance .a) →
    answersFirst .advanceA s q
      [(!s.units.any (fun u => u.position = .bayA), .bayEmpty), (s.runIn.run.isSome, .active)]
      ((dequeue s).setUnits (s.units.map (fun u =>
        if u.position = .bayA then { u with position := .transfer } else u)))) ∧
  (∀ (s : State) (q : Request), s.takes q (.advance .b) →
    answersFirst .advanceB s q
      [(!s.units.any (fun u => u.position = .transfer), .bayEmpty),
       ((match s.leak.run with | some r => decide (r.phase = .faulted) | none => false), .active),
       (s.units.any (fun u => u.position = .bayB), .bayOccupied)]
      ((dequeue s).setUnits (moveFirst s.units))) ∧
  (∀ (front back : List UnitRecord) (u : UnitRecord), (∀ x ∈ front, x.position ≠ .transfer) →
    u.position = .transfer → moveFirst (front ++ u :: back) = front ++ { u with position := .bayB } :: back)

/-- RELEASE (R74, R75, R149) and WITHDRAW (R76, R77, R141): refused with the first reason that applies; accepted, the report
of the record joins the Report Queue under the next number, the record leaves the list, UNIT_CLOSED is raised, and only
RELEASE updates the variant's statistics.  That a record whose variant is not loaded, which no run has, is reported with no
required check is the model's choice (DESIGN CHOICE, notes/assumptions/19.md). -/
def Obligations.ClosingAUnitReportsIt : Prop :=
  let reported (s : State) (u : UnitRecord) (v : Verdict) (basis : Checks) (bay : Option Bay) : State :=
    raise
      { s with
        reports := { s.reports with
          reports := s.reports.reports ++
            [{ number := s.reports.next, verdict := v, basis := basis, unit := u,
               required := match s.lookup u.variantId with | some x => x.2.1.required | none => Checks.empty }],
          next := (s.reports.next + 1) % 65536 },
        units := s.units.filter (fun x => x.serial != u.serial) }
      .unitClosed bay (some u.serial) (.verdict v)
  (∀ (s : State) (q : Request), s.takes q .release → s.unitAt .bayB = none →
    answers .release s q (refusal .bayEmpty) (dequeue s)) ∧
  (∀ (s : State) (q : Request) (u : UnitRecord), s.takes q .release → s.unitAt .bayB = some u →
    let required := match s.lookup u.variantId with | some x => x.2.1.required | none => Checks.empty
    let verdict := verdictOf u required
    answersFirst .release s q
      [(s.leak.run.isSome, .active), (decide (4 ≤ s.reports.reports.length), .reportQueueFull)]
      (reported (releaseStats (dequeue s) u verdict.1) u verdict.1 verdict.2 (some .b))) ∧
  (∀ (s : State) (q : Request) (serial : Serial), s.takes q (.withdraw serial) →
    (∀ u ∈ s.units, u.serial ≠ serial) → answers .withdraw s q (refusal .notFound) (dequeue s)) ∧
  (∀ (s : State) (q : Request) (serial : Serial) (u : UnitRecord), s.takes q (.withdraw serial) →
    s.units.find? (fun x => x.serial = serial) = some u →
    answersFirst .withdraw s q
      [((match u.position with
         | .bayA => s.runIn.run.isSome
         | .transfer => false
         | .bayB => s.leak.run.isSome), .active),
       (decide (4 ≤ s.reports.reports.length), .reportQueueFull)]
      (reported (dequeue s) u .withdrawn Checks.empty
        (match u.position with | .bayA => some .a | .transfer => none | .bayB => some .b)))

/-- The verdict (R140), the statistics at a RELEASE (R143 to R145), and RELEASE_VARIANT and CLEAR_STATS (R146, R147). -/
def Obligations.VerdictsAreCountedAndHeld : Prop :=
  (∀ (u : UnitRecord) (required : Checks),
    let failed : Checks :=
      { runin := decide (∃ c ∈ [RuninFailCause.torque, .oilTemp, .speed], u.runin = .done (.fail c)),
        noise := decide (u.noise = .fail),
        leak := decide (∃ c ∈ [LeakFailCause.gross, .rate], u.leak = .done (.fail c)) }
    let missing : Checks :=
      { runin := required.runin && decide (u.runin = .notRun ∨
          ∃ c ∈ [RuninAbortCause.request, .guard, .stream, .channel, .angle], u.runin = .done (.aborted c)),
        noise := required.noise && decide (u.noise = .notRun ∨ u.noise = .noResult),
        leak := required.leak && decide (u.leak = .notRun ∨
          ∃ c ∈ [LeakAbortCause.request, .pressureHigh, .stream, .channel], u.leak = .done (.aborted c)) }
    verdictOf u required =
      if failed ≠ Checks.empty then (.reject, failed)
      else if missing ≠ Checks.empty then (.incomplete, missing)
      else (.accept, Checks.empty)) ∧
  (∀ (t : Stats) (threshold : Nat) (v : Verdict) (u : UnitRecord),
    let n := (t.released threshold v u).1
    (t.tested < 4294967295 → n.tested = t.tested + 1 ∧ n.frozen = t.frozen ∧
      n.accepted = t.accepted + (if v = .accept then 1 else 0) ∧
      n.rejected = t.rejected + (if v = .reject then 1 else 0) ∧
      n.incomplete = t.incomplete + (if v = .incomplete then 1 else 0)) ∧
    (4294967295 ≤ t.tested → n.tested = t.tested ∧ n.accepted = t.accepted ∧ n.rejected = t.rejected ∧
      n.incomplete = t.incomplete ∧ n.frozen = true) ∧
    (t.held = true → n.runinRejects = t.runinRejects ∧ n.noiseRejects = t.noiseRejects ∧
      n.leakRejects = t.leakRejects ∧ n.held = true ∧ n.holdChecks = t.holdChecks ∧
      (t.released threshold v u).2 = false) ∧
    (t.held = false →
      n.runinRejects = (if u.failed.runin then (if threshold = 0 then t.runinRejects else t.runinRejects + 1)
        else if u.passed.runin then 0 else t.runinRejects) ∧
      n.noiseRejects = (if u.failed.noise then (if threshold = 0 then t.noiseRejects else t.noiseRejects + 1)
        else if u.passed.noise then 0 else t.noiseRejects) ∧
      n.leakRejects = (if u.failed.leak then (if threshold = 0 then t.leakRejects else t.leakRejects + 1)
        else if u.passed.leak then 0 else t.leakRejects) ∧
      ((t.released threshold v u).2 = true ↔ threshold ≠ 0 ∧
        (n.runinRejects = threshold ∨ n.noiseRejects = threshold ∨ n.leakRejects = threshold)) ∧
      n.held = (t.released threshold v u).2 ∧
      n.holdChecks = if n.held then
        { runin := n.runinRejects = threshold, noise := n.noiseRejects = threshold, leak := n.leakRejects = threshold }
        else t.holdChecks)) ∧
  (∀ (s : State) (u : UnitRecord) (verdict : Verdict) (slot : Nat) (v : Variant) (stats : Stats) (t : Tables),
    s.tables = some t → s.lookup u.variantId = some (slot, v, stats) →
    let new := stats.released v.holdThreshold verdict u
    let s1 := s.setTables (some { t with variants := modifyAt (fun x => { x with stats := new.1 }) t.variants slot })
    releaseStats s u verdict = if new.2 then
        raise s1 .variantHeld (some .b) (some u.serial) (.held v.id slot new.1.holdChecks)
      else s1) ∧
  (∀ (s : State) (q : Request) (slot : Nat),
    let answered (c : Instr) (f : Stats → Stats) : Prop :=
      (s.tables = none → answers c s q (refusal .notBound) (dequeue s)) ∧
      (∀ t, s.tables = some t → t.variants.length ≤ slot → answers c s q (refusal .badValue) (dequeue s)) ∧
      (∀ t x, s.tables = some t → t.variants[slot]? = some x →
        answersFirst c s q [(x.record.isNone, .notFound)] ((dequeue s).setTables
          (some { t with variants := modifyAt (fun _ => { x with stats := f x.stats }) t.variants slot })))
    (s.takes q (.releaseVariant slot) → answered .releaseVariant (fun t =>
      { t with runinRejects := 0, noiseRejects := 0, leakRejects := 0, held := false, holdChecks := Checks.empty })) ∧
    (s.takes q (.clearStats slot) → answered .clearStats (fun _ =>
      { tested := 0, accepted := 0, rejected := 0, incomplete := 0, frozen := false, runinRejects := 0,
        noiseRejects := 0, leakRejects := 0, held := false, holdChecks := Checks.empty })))

/-! ## Run-in -/

/-- START_SPIN (R83, R84): refused with the first of the reasons; accepted, runin becomes RUNNING, the required channels,
the stand, variant and profile are fixed, and segment 0 begins.  A segment begins (R85) with its drive command and RAMP,
and a ramp time of 0 ends RAMP at once; with a station reset in progress it begins without a command (R169).  SETTLE is
entered with a new phase start, and a settle time of 0 ends it at once.  Role selection (R33) takes the lowest-numbered
usable channel: loaded, acquire-enabled, OK or HELD, of that role and, but for AMBIENT_TEMP, in that bay.  That START_SPIN without a loaded variant or
profile is NO_VARIANT is the model's choice (DESIGN CHOICE, notes/assumptions/19.md). -/
def Obligations.StartSpinBeginsARunIn : Prop :=
  (∀ (s : State) (q : Request), s.takes q .startSpin →
    let code := firstCode
      [((s.unitAt .bayA).isNone, .bayEmpty),
       (s.runIn.run.isSome, .active),
       ((match s.unitAt .bayA with | some u => decide (u.runin ≠ .notRun) | none => false), .wrongState),
       (s.runIn.guardAsserted, .guardOpen),
       (s.stand.isNone || (s.select .torque .a).isNone || (s.select .oilTemp .a).isNone ||
          (match s.angle.state with | .fault _ => true | _ => false), .notReady),
       (((s.variantAtA).bind (fun v => s.profile v.profile)).isNone, .noVariant)]
    (code ≠ .ok → answers .startSpin s q (refusal code) (dequeue s)) ∧
    (∀ st torque oil v segs, code = .ok → s.stand = some st → s.select .torque .a = some torque →
      s.select .oilTemp .a = some oil → s.variantAtA = some v → s.profile v.profile = some segs →
      answers .startSpin s q okEmpty (beginSegment
        { dequeue s with
          units := s.units.map (fun u => if u.position = .bayA then { u with runin := .running } else u),
          runIn := { s.runIn with
            run := some {
              phase := .ramp, segment := 0, phaseStart := s.timeBase, pending := none,
              written := false, torqueChannel := torque.1, oilChannel := oil.1, stand := st, variant := v,
              profile := segs, errorStart := none, acc := HoldAcc.cleared, unavailable := false } } } 0))) ∧
  (∀ (s : State) (r : SpinRun) (i : Nat) (seg : Segment) (st : Stand), s.runIn.run = some r → r.profile[i]? = some seg →
    s.stand = some st →
    let c := nextDrive s true seg.target seg.ramp seg.load
    let ramping := some { r with segment := i, phase := .ramp, phaseStart := s.timeBase }
    let issued : State :=
      { s with
        runIn := { s.runIn with
          run := ramping, commandNumber := c.number, lastCommand := some c, refreshStart := some s.timeBase },
        arbiter := { s.arbiter with driveSlot := some (st.driveNode, c) } }
    let held : State := s.setRunIn { s.runIn with run := ramping }
    (s.requests.resetWait = none → beginSegment s i = if seg.ramp = 0 then enterSettle issued else issued) ∧
    (s.requests.resetWait ≠ none → beginSegment s i = if seg.ramp = 0 then enterSettle held else held)) ∧
  (∀ (s : State) (r : SpinRun) (seg : Segment), s.runIn.run = some r → r.profile[r.segment]? = some seg →
    let settling := s.setRunIn { s.runIn with run := some { r with phase := .settle, phaseStart := s.timeBase } }
    enterSettle s = if seg.settle = 0 then holdEntry settling else settling) ∧
  (∀ (s : State) (role : Role) (bay : Bay), role ≠ .vibration → role ≠ .sound →
    let usable (x : Channel) : Prop := ∃ cfg, x.config = some cfg ∧ x.acquire = true ∧
      (x.status = .ok ∨ x.status = .held) ∧ cfg.role = role ∧ (role ≠ .ambientTemp → cfg.bay = some bay)
    (∀ c ch, s.select role bay = some (c, ch) ↔
      s.channels[c]? = some ch ∧ usable ch ∧ ∀ j x, j < c → s.channels[j]? = some x → ¬usable x) ∧
    (s.select role bay = none ↔ ∀ (c : Nat) ch, s.channels[c]? = some ch → ¬usable ch))

/-- To take an outcome (R94): in RAMP, SETTLE and HOLD the sequencer enters STOPPING with its stop command (R97); in any
other state it is not taken.  Supervision (R90, R91): in RAMP, SETTLE and HOLD every torque and oil temperature published by
the required channels is recorded in the unit record, and in HOLD in the HOLD's accumulators, and then one beyond its
limit takes FAIL, TORQUE or FAIL, OIL_TEMP.  In HOLD every published shaft speed is recorded, and one off the target by
more than the allowed error starts the speed error if none is running; one within it, an absent one or a lost lock ends
it (R92).  ABORT_SPIN (R95) and SPEED_PERSIST_EXPIRY (R92) take their outcomes; ABORT_SPIN later changes nothing, and in
IDLE is NOT_ACTIVE.  An event that is not due changes nothing (notes/assumptions/6.md). -/
def Obligations.AnOutcomeStopsTheRunIn : Prop :=
  (∀ (s : State) (o : RuninOutcome),
    (∀ st r, s.runIn.run = some r → s.stand = some st → r.phase.supervised = true →
      OutcomeTaken s st r o (takeOutcome s o)) ∧
    ((∀ r, s.runIn.run = some r → r.phase.supervised = false) → takeOutcome s o = s)) ∧
  (∀ (s : State) (p : Published),
    ((∀ r, s.runIn.run = some r → r.phase.supervised = false ∨ (p.channel ≠ r.torqueChannel ∧ p.channel ≠ r.oilChannel)) →
      runInValue s p = s) ∧
    (∀ (r : SpinRun) (st : Stand) (seg : Segment), s.runIn.run = some r → s.stand = some st →
      r.phase.supervised = true → r.profile[r.segment]? = some seg →
      let recorded (f : UnitRecord → UnitRecord) (r' : SpinRun) : State :=
        { s with units := s.units.map (fun u => if u.position = .bayA then f u else u),
                 runIn := { s.runIn with run := some r' } }
      (p.channel = r.torqueChannel →
        let a := p.value.natAbs
        let r' : SpinRun := if r.phase = .hold then
            { r with acc := { r.acc with
                torqueSum := r.acc.torqueSum + p.value, torqueCount := r.acc.torqueCount + 1,
                maxTorque := some (match r.acc.maxTorque with | some m => max m a | none => a) } }
          else r
        let taken := recorded (fun u => { u with
          maxTorque := some (match u.maxTorque with | some m => max m (min 32767 a) | none => min 32767 a) }) r'
        (a ≤ seg.torqueLimit → runInValue s p = taken) ∧
        (seg.torqueLimit < a → OutcomeTaken taken st r' (.fail .torque) (runInValue s p))) ∧
      (p.channel = r.oilChannel → p.channel ≠ r.torqueChannel →
        let larger (old : Option Int) : Option Int :=
          some (match old with | some m => max m p.value | none => p.value)
        let r' : SpinRun := if r.phase = .hold then { r with acc := { r.acc with maxOil := larger r.acc.maxOil } } else r
        let taken := recorded (fun u => { u with maxOil := larger u.maxOil }) r'
        (p.value ≤ r.variant.oilLimit → runInValue s p = taken) ∧
        (r.variant.oilLimit < p.value → OutcomeTaken taken st r' (.fail .oilTemp) (runInValue s p))))) ∧
  (∀ (s : State) (speed : Option Int),
    ((∀ r, s.runIn.run = some r → r.phase ≠ .hold) → runInSpeed s speed = s) ∧
    (∀ r seg, s.runIn.run = some r → r.phase = .hold → r.profile[r.segment]? = some seg →
      runInSpeed s speed = s.setRunIn { s.runIn with run := some (match speed with
        | none => { r with errorStart := none }
        | some v =>
          let allowed := max 20 (r.variant.speedTolerance * seg.target.natAbs / 1000)
          { r with
            acc := { r.acc with
              minSpeed := some (match r.acc.minSpeed with | some m => min m v | none => v),
              maxSpeed := some (match r.acc.maxSpeed with | some m => max m v | none => v) },
            errorStart := if allowed < (v - seg.target).natAbs then
                some (match r.errorStart with | some start => start | none => s.timeBase)
              else none }) })) ∧
  (∀ s : State, (s.runIn.run = none → runInLostLock s = s) ∧
    (∀ r, s.runIn.run = some r →
      runInLostLock s = s.setRunIn { s.runIn with run := some { r with errorStart := none } })) ∧
  (∀ (s : State) (q : Request) (st : Stand) (r : SpinRun), s.takes q .abortSpin → s.stand = some st →
    s.runIn.run = some r → r.phase.supervised = true →
    ∃ u, OutcomeTaken (dequeue s) st r (.aborted .request) u ∧ answers .abortSpin s q okEmpty u) ∧
  (∀ (s : State) (q : Request) (r : SpinRun), s.takes q .abortSpin → s.runIn.run = some r →
    r.phase.supervised = false → answers .abortSpin s q okEmpty (dequeue s)) ∧
  (∀ (s : State) (q : Request), s.takes q .abortSpin → s.runIn.run = none →
    answers .abortSpin s q (refusal .notActive) (dequeue s)) ∧
  (∀ (s : State) (st : Stand) (r : SpinRun) (start : Time), s.pins.resetHeld = false → s.stand = some st →
    s.runIn.run = some r → r.phase = .hold → r.errorStart = some start →
    r.variant.speedPersist ≤ elapsed s.timeBase start →
    ∃ u, OutcomeTaken s st r (.fail .speed) u ∧ happens .speedPersistExpiry s u) ∧
  (∀ (s : State), (∀ r start, s.runIn.run = some r → r.errorStart = some start → r.phase ≠ .hold ∨
      elapsed s.timeBase start < r.variant.speedPersist) → exec .speedPersistExpiry s = .next s)

/-- GUARD (R96): each change of level sets the guard state and raises GUARD with the level and the time of the edge; an
assertion outside IDLE records the guard time if none is recorded, and in RAMP, SETTLE or HOLD takes ABORTED, GUARD; a
release does no more.  A level that is already there is no edge. -/
def Obligations.GuardEdgesAreRaisedAndAbort : Prop :=
  ∀ (s : State) (level : Bool), s.pins.resetHeld = false → s.ring.port ≠ .bypass →
    let edge := raise { s with pins := { s.pins with guardLow := level },
                               runIn := { s.runIn with guardAsserted := level } }
      .guard (some .a) (s.serialAt .bayA) (.edge level s.timeBase)
    let timed := match s.runIn.run with
      | none => edge
      | some _ => edge.setUnits (s.units.map (fun u => if u.position = .bayA then
          { u with guardTime := (match u.guardTime with | some x => some x | none => some s.timeBase) } else u))
    (level = s.pins.guardLow → exec (.guard level) s = .next s) ∧
    (level ≠ s.pins.guardLow → level = false → happens (.guard level) s edge) ∧
    (level ≠ s.pins.guardLow → level = true →
      ((∀ r, s.runIn.run = some r → r.phase.supervised = false) → happens (.guard level) s timed) ∧
      (∀ r st, s.runIn.run = some r → r.phase.supervised = true → s.stand = some st →
        ∃ u, OutcomeTaken timed st r (.aborted .guard) u ∧ happens (.guard level) s u))

/-- RAMP_END, SETTLE_END and HOLD_END (R85 to R87, R103): each comes when its time has passed; HOLD is entered only with
the angle LOCKED, and then the Order Engine opens a window, answers that analysis is unavailable, or stays CLOSED; the
end of HOLD closes the window, appends the segment's summary, and the next segment begins or the outcome PASS is taken.
The window's order values are R105's, WHEEL rounding half up; a listed channel is INCLUDED exactly under R104's four
conditions, and otherwise EXCLUDED.  An event that is not due changes nothing (notes/assumptions/6.md). -/
def Obligations.PhasesEndInOrder : Prop :=
  (∀ (s : State) (r : SpinRun) (seg : Segment), s.pins.resetHeld = false → s.runIn.run = some r →
    r.profile[r.segment]? = some seg →
    let settling := s.setRunIn { s.runIn with run := some { r with phase := .settle, phaseStart := s.timeBase } }
    (r.phase = .ramp → seg.ramp ≤ elapsed s.timeBase r.phaseStart →
      happens .rampEnd s (if seg.settle = 0 then holdEntry settling else settling)) ∧
    (r.phase = .settle → seg.settle ≤ elapsed s.timeBase r.phaseStart → happens .settleEnd s (holdEntry s)) ∧
    (r.phase = .hold → seg.hold ≤ elapsed s.timeBase r.phaseStart →
      let closed := closeWindow s
      let summary : Summary :=
        { segment := r.segment, maxTorque := r.acc.maxTorque, maxOil := r.acc.maxOil, minSpeed := r.acc.minSpeed,
          maxSpeed := r.acc.maxSpeed, valid := closed.1, unavailable := r.unavailable,
          meanTorque := if r.acc.torqueCount = 0 then none
            else some (Int.fdiv r.acc.torqueSum r.acc.torqueCount) }
      let s1 := closed.2.setUnits (closed.2.units.map (fun u =>
        if u.position = .bayA then { u with summaries := u.summaries ++ [summary] } else u))
      (r.segment + 1 < r.profile.length → happens .holdEnd s (beginSegment s1 (r.segment + 1))) ∧
      (∀ st, s.stand = some st → r.profile.length ≤ r.segment + 1 →
        ∃ u, OutcomeTaken s1 st r .pass u ∧ happens .holdEnd s u)) ∧
    ((r.phase ≠ .ramp ∨ elapsed s.timeBase r.phaseStart < seg.ramp) → exec .rampEnd s = .next s) ∧
    ((r.phase ≠ .settle ∨ elapsed s.timeBase r.phaseStart < seg.settle) → exec .settleEnd s = .next s) ∧
    ((r.phase ≠ .hold ∨ elapsed s.timeBase r.phaseStart < seg.hold) → exec .holdEnd s = .next s)) ∧
  (∀ (s : State) (r : SpinRun) (seg : Segment) (t : Track), s.runIn.run = some r → r.profile[r.segment]? = some seg →
    s.angle.state = .locked t →
    let held (e : Engine) (unavailable : Bool) : State :=
      (s.setEngine e).setRunIn { s.runIn with
        run := some { r with
          phase := .hold, phaseStart := s.timeBase, acc := HoldAcc.cleared, errorStart := none,
          unavailable := unavailable } }
    (seg.slot = none → holdEntry s = held s.engine false) ∧
    (∀ n, seg.slot = some n → s.activeSet n = none →
      holdEntry s = held { s.engine with unavailableSeen := true } true) ∧
    (∀ n set v, seg.slot = some n → s.activeSet n = some set → s.variantAtA = some v →
      holdEntry s = held { s.engine with
        window := some {
          segment := r.segment, slot := n, orderValues := set.orders.map (orderValue v),
          channels := set.channels.map (fun c => (c, channelEntry s c)), validBlocks := 0, block := none,
          pairs := List.replicate set.orders.length (List.replicate set.channels.length
            { valid := 0, fail := 0, invalid := 0, worst := none }) } } false)) ∧
  (∀ (v : Variant) (e : OrderEntry),
    (e.base = .shaft → orderValue v e = e.harmonic * 65536) ∧
    (e.base = .mesh → orderValue v e = e.harmonic * v.pinionTeeth * 65536) ∧
    (e.base = .wheel → orderValue v e =
      (e.harmonic * v.pinionTeeth * 65536 * 2 + v.ringTeeth) / (2 * v.ringTeeth)) ∧
    (e.base = .wheel → 0 < v.ringTeeth →
      v.ringTeeth * (2 * orderValue v e) ≤ 2 * (e.harmonic * v.pinionTeeth * 65536) + v.ringTeeth ∧
      2 * (e.harmonic * v.pinionTeeth * 65536) < v.ringTeeth * (2 * orderValue v e + 1)) ∧
    (e.base = .direct → orderValue v e = e.direct)) ∧
  (∀ (s : State) (c : Nat),
    (channelEntry s c = .included ∨ channelEntry s c = .excluded) ∧
    (channelEntry s c = .included ↔
      (∃ ch cfg, s.channels[c]? = some ch ∧ ch.config = some cfg ∧ ch.acquire = true ∧
        (∀ kind, ch.status ≠ .fault kind) ∧ (cfg.role = .vibration ∨ cfg.role = .sound)) ∧
      ∃ i stream, s.angleSource = some i ∧ s.enabledStream i = some stream ∧ some c ∈ stream.binding)) ∧
  (∀ (s : State) (r : SpinRun) (st : Stand), s.runIn.run = some r → r.phase = .ramp ∨ r.phase = .settle →
    s.stand = some st → (∀ t, s.angle.state ≠ .locked t) → OutcomeTaken s st r (.aborted .angle) (holdEntry s))

/-- The end of STOPPING: standstill (R98) and STOP_TIMEOUT (R99) write the outcome once, settle the noise result (R119),
issue the final command and raise RUNIN_END or STOP_TIMEOUT; CLEAR_FAULT A (R100) stops again; DRIVE_REFRESH (R89)
repeats the last command.  An event that is not due changes nothing (notes/assumptions/6.md).  That the outcome segment
stays past the return to IDLE is the model's choice (DEDUCED, notes/assumptions/38.md). -/
def Obligations.StoppingEndsOrFaults : Prop :=
  let written (s : State) (r : SpinRun) (o : RuninOutcome) (timedOut : Bool) (u : State) : Prop :=
    if r.written then u.units = s.units ∧ u.engine = s.engine
    else
      u.units = s.units.map (fun x => if x.position = .bayA then
        { x with runin := .done o, endSegment := s.runIn.outcomeSegment, stopTimeout := some timedOut,
                 noise := if r.profile.all (fun seg => seg.slot.isNone) then .notRun
                   else if s.engine.failSeen then .fail
                   else if s.engine.noResultSeen ∨ s.engine.unavailableSeen ∨ o ≠ .pass then .noResult
                   else .pass } else x) ∧
      u.engine = { s.engine with failSeen := false, noResultSeen := false, unavailableSeen := false }
  (∀ (s : State) (r : SpinRun) (st : Stand) (o : RuninOutcome), s.runIn.run = some r → s.stand = some st →
    r.pending = some o → r.phase = .stopping → 100 ≤ elapsed s.timeBase r.phaseStart → s.angle.standstill = true →
    let u := runInStandstill s
    JobStep s u ∧ u.runIn.run = none ∧ u.runIn.outcomeSegment = s.runIn.outcomeSegment ∧
      driveIssued s u st (nextDrive s false 0 0 0) ∧ written s r o false u ∧
      u.notices = (raise s .runinEnd (some .a) (s.serialAt .bayA) (.runin o)).notices) ∧
  (∀ (s : State), (∀ r, s.runIn.run = some r → r.phase ≠ .stopping ∨ elapsed s.timeBase r.phaseStart < 100) ∨
    s.angle.standstill = false → runInStandstill s = s) ∧
  (∀ (s : State) (r : SpinRun) (st : Stand) (o : RuninOutcome), s.pins.resetHeld = false → s.runIn.run = some r →
    s.stand = some st → r.pending = some o → r.phase = .stopping →
    r.stand.stopTimeout ≤ elapsed s.timeBase r.phaseStart →
    ∃ u, happens .stopTimeout s u ∧ JobStep s u ∧
      u.runIn.run = some { r with written := true, phase := .faulted } ∧
      u.runIn.outcomeSegment = s.runIn.outcomeSegment ∧
      driveIssued s u st (nextDrive s false 0 0 0) ∧ written s r o true u ∧
      u.notices = (raise s .stopTimeout (some .a) (s.serialAt .bayA) (.runin o)).notices) ∧
  (∀ (s : State), (∀ r, s.runIn.run = some r → r.phase ≠ .stopping ∨
    elapsed s.timeBase r.phaseStart < r.stand.stopTimeout) → exec .stopTimeout s = .next s) ∧
  (∀ (s : State) (q : Request) (r : SpinRun) (st : Stand), s.takes q (.clearFault .a) → s.runIn.run = some r →
    r.phase = .faulted → s.stand = some st →
    let c := nextDrive s true 0 r.stand.stopRamp 0
    answers .clearFaultA s q okEmpty
      { dequeue s with
        runIn := { s.runIn with run := some { r with phase := .stopping, phaseStart := s.timeBase },
                                commandNumber := c.number, lastCommand := some c,
                                refreshStart := some s.timeBase },
        arbiter := { s.arbiter with driveSlot := some (st.driveNode, c) } }) ∧
  (∀ (s : State) (q : Request), s.takes q (.clearFault .a) → (∀ r, s.runIn.run = some r → r.phase ≠ .faulted) →
    answers .clearFaultA s q (refusal .notActive) (dequeue s)) ∧
  (∀ (s : State) (r : SpinRun) (st : Stand) (c : DriveCommand) (start : Time), s.pins.resetHeld = false →
    s.runIn.run = some r → s.stand = some st → s.runIn.lastCommand = some c → s.runIn.refreshStart = some start →
    r.phase ≠ .faulted → s.requests.resetWait = none → r.stand.refresh ≤ elapsed s.timeBase start →
    happens .driveRefresh s
      { s with runIn := { s.runIn with refreshStart := some s.timeBase },
               arbiter := { s.arbiter with driveSlot := some (st.driveNode, c) } }) ∧
  (∀ (s : State), (∀ r start, s.runIn.run = some r → s.runIn.refreshStart = some start → r.phase = .faulted ∨
    s.requests.resetWait ≠ none ∨ elapsed s.timeBase start < r.stand.refresh) → exec .driveRefresh s = .next s)

/-! ## Order analysis -/

/-- The integers of a judged pair: R113's root and amplitude, and R114's limit, which lies between the smallest and the
largest limit of its curve. -/
def Obligations.AmplitudeAndLimitAreWhatTheyShouldBe : Prop :=
  (∀ m : Nat, isqrt m * isqrt m ≤ m ∧ m < (isqrt m + 1) * (isqrt m + 1)) ∧
  (∀ (c s : Int) (n : Nat), amplitude c s n =
    min 65535 ((isqrt ((c * c + s * s).toNat) + 512 * n) / (1024 * n))) ∧
  (∀ (curve : List CurvePoint) (v lo hi : Nat), curve ≠ [] → increasing curve = true →
    (∀ p ∈ curve, lo ≤ p.limit ∧ p.limit ≤ hi) →
    (lo : Int) ≤ limitAt curve v ∧ limitAt curve v ≤ (hi : Int)) ∧
  (∀ (front back : List CurvePoint) (p q : CurvePoint) (v : Nat), increasing (front ++ p :: q :: back) = true →
    p.speed ≤ v → v < q.speed → limitAt (front ++ p :: q :: back) v =
      (p.limit : Int) + Int.fdiv (((q.limit : Int) - p.limit) * ((v : Int) - p.speed)) ((q.speed : Int) - p.speed)) ∧
  (∀ (p : CurvePoint) (rest : List CurvePoint) (v : Nat), v ≤ p.speed → limitAt (p :: rest) v = p.limit) ∧
  (∀ (front : List CurvePoint) (p : CurvePoint) (v : Nat), increasing (front ++ [p]) = true → p.speed ≤ v →
    limitAt (front ++ [p]) v = p.limit)

/-- A block in flight (R106, R107, R109 to R111): a boundary begins it, an untimed one cuts it, a timed one counts a
revolution and closes it at the B-th; an angle record adds x × cos and x × sin of the order's phase to the sums of every
INCLUDED channel's pair and counts a sample, and the 4194304th closes it as too long; a break ends it as invalid; a
channel withdrawn while it is in flight counts it as invalid for each of the channel's pairs and loses its sums, while the
block goes on for the others; and it is marked exactly when one of the five conditions holds.  The events of the Angle
Unit, of a gap and of a channel reach the open window and change nothing else (R47). -/
def Obligations.BlocksGatherRevolutionsAndRecords : Prop :=
  (∀ (w : Window) (set : OrderSet) (fs : Nat) (e : Boundary),
    let fresh : Option Block := some
      { r := 0, n := 0, filled := 0, clipped := false, spread := none, direction := none, mixed := false,
        sums := List.replicate w.orderValues.length (List.replicate w.channels.length (0, 0)) }
    (w.block = none → w.boundary set fs e = { w with block := fresh }) ∧
    (∀ b, w.block = some b → e.speed = none → w.boundary set fs e = { w.spoilAll with block := fresh }) ∧
    (∀ b v, w.block = some b → e.speed = some v →
      let taken : Block :=
        { b with
          spread := some (match b.spread with
            | none => (v.natAbs, v.natAbs)
            | some (lo, hi) => (min lo v.natAbs, max hi v.natAbs)),
          direction := some (match b.direction with | none => e.direction | some d => d),
          mixed := b.mixed || decide (∃ d, b.direction = some d ∧ d ≠ e.direction) }
      w.boundary set fs e =
        if b.r + 1 < set.revs then { w with block := some { taken with r := b.r + 1 } }
        else { closeBlock w set fs false taken with block := fresh })) ∧
  (∀ (w : Window) (set : OrderSet) (fs : Nat) (a : AngleRecord) (values : List Published),
    (w.block = none → w.record set fs a values = w) ∧
    (∀ b, w.block = some b → ∃ b' : Block,
      w.record set fs a values =
        (if b.n + 1 < 4194304 then { w with block := some b' } else closeBlock w set fs true b') ∧
      b' = { b with n := b.n + 1, filled := b.filled + (if a.filled then 1 else 0),
                    clipped := b.clipped || decide (∃ c ∈ w.channels, c.2 = .included ∧
                      ∃ p ∈ values, p.channel = c.1 ∧ p.clipped = true),
                    sums := b'.sums } ∧
      ∀ (k j o c : Nat) (row : List (Int × Int)) (entry : ChannelEntry) (cs : Int × Int), w.orderValues[k]? = some o →
        b.sums[k]? = some row → w.channels[j]? = some (c, entry) → row[j]? = some cs →
        let phase := o * (b.r * 65536 + a.angle16) / 65536 % 65536
        ∃ row', b'.sums[k]? = some row' ∧ row'[j]? = some
          (match values.find? (fun p => p.channel = c) with
           | some p => if entry = .included then
               (cs.1 + p.raw * sinTable ((phase + 16384) % 65536 / 64), cs.2 + p.raw * sinTable (phase / 64)) else cs
           | none => cs))) ∧
  (∀ w : Window, (w.block = none → w.invalidate = w) ∧
    (w.block ≠ none → w.invalidate = { w.spoilAll with block := none })) ∧
  (∀ (w : Window) (c : Nat),
    let u := w.withdraw c
    u = { w with channels := u.channels, pairs := u.pairs, block := u.block } ∧
    (∀ (j c' : Nat) (entry : ChannelEntry), w.channels[j]? = some (c', entry) →
      u.channels[j]? = some (c', if c' = c ∧ entry = .included then .withdrawn else entry)) ∧
    (w.block = none → u.pairs = w.pairs ∧ u.block = none) ∧
    (∀ b, w.block = some b →
      (∀ (k j c' : Nat) (entry : ChannelEntry) (row : List PairCount) (p : PairCount), w.pairs[k]? = some row →
        w.channels[j]? = some (c', entry) → row[j]? = some p →
        ∃ row', u.pairs[k]? = some row' ∧ row'[j]? = some
          (if c' = c ∧ entry = .included then { p with invalid := sat16 p.invalid } else p)) ∧
      ∃ b', u.block = some b' ∧ b' = { b with sums := b'.sums } ∧
        ∀ (k j c' : Nat) (entry : ChannelEntry) (row : List (Int × Int)) (cs : Int × Int), b.sums[k]? = some row →
          w.channels[j]? = some (c', entry) → row[j]? = some cs →
          ∃ row', b'.sums[k]? = some row' ∧ row'[j]? = some (if c' = c ∧ entry = .included then (0, 0) else cs))) ∧
  (∀ (steadiness : Nat) (v : Int) (long : Bool) (b : Block), blockMark steadiness v long b = none ↔
    b.clipped = false ∧ b.filled * 100 ≤ b.n ∧ 64 ≤ b.n ∧ long = false ∧ b.mixed = false ∧
      ∀ lo hi, b.spread = some (lo, hi) → (hi - lo) * 1000 ≤ steadiness * v.natAbs) ∧
  (∀ (s : State) (e : Boundary) (a : AngleRecord) (values : List Published) (c : Nat),
    let fs := match s.source with | some cfg => cfg.fs | none => 0
    let changed (w : Window) : State := s.setEngine { s.engine with window := some w }
    (s.engine.window = none →
      engineBoundary s e = s ∧ engineRecord s a values = s ∧ engineBreak s = s ∧ engineWithdraw s c = s) ∧
    (∀ w, s.engine.window = some w →
      engineBreak s = changed w.invalidate ∧ engineWithdraw s c = changed (w.withdraw c) ∧
      ∀ set, s.activeSet w.slot = some set →
        engineBoundary s e = changed (w.boundary set fs e) ∧
        engineRecord s a values = changed (w.record set fs a values)))

/-- A window's counts and findings: a marked block adds 1 to every invalid count of the INCLUDED channels and is no valid
block (R110, R111).  An unmarked one is a valid block and is judged, at the block speed of R111, pair by pair: an order
that is ABOVE_BAND adds 1 to the invalid count of its pair with each INCLUDED channel (R112); any other adds 1 to the
valid count, and to the fail count if the amplitude exceeds the limit, and becomes the worst block if there is none or its
margin is smaller (R115); no other pair is touched.  The close forms one finding per pair, in order list order and then in
analysis channel list order, with R116's verdict, offers them to the record at BAY_A, gathers the run record, leaves
the engine CLOSED and carries out a pending swap of the slot, which raises ORDER_SET_SWAPPED with bay A, the serial at
BAY_A and the slot (R63).  A record never holds more than 48 findings; one offered to a full list takes the place of the one that
stands highest, the nearest to the front among equals, if it stands lower, goes to the end, and is dropped otherwise;
either way the truncated flag is set (R117). -/
def Obligations.WindowsCloseIntoFindings : Prop :=
  (∀ (fs revs : Nat) (b : Block), blockSpeed fs revs b =
    if b.direction = some .reverse then -((240 * fs * revs / b.n : Nat) : Int) else ((240 * fs * revs / b.n : Nat) : Int)) ∧
  (∀ (w : Window) (set : OrderSet) (fs : Nat) (long : Bool) (b : Block),
    let v := blockSpeed fs set.revs b
    let u := closeBlock w set fs long b
    (blockMark set.steadiness v long b ≠ none → u = { w.spoilAll with block := none }) ∧
    (blockMark set.steadiness v long b = none →
      u = { w with validBlocks := sat16 w.validBlocks, pairs := u.pairs, block := none } ∧
      ∀ (k j c order : Nat) (entry : OrderEntry) (e : ChannelEntry) (sums : List (Int × Int)) (row : List PairCount)
          (cs : Int × Int) (p : PairCount),
        w.orderValues[k]? = some order → set.orders[k]? = some entry → b.sums[k]? = some sums →
        w.pairs[k]? = some row → w.channels[j]? = some (c, e) → sums[j]? = some cs → row[j]? = some p →
        let a := amplitude cs.1 cs.2 b.n
        let l := (limitAt entry.curve v.natAbs).toNat
        let this : Worst := { a := a, l := l, v := v, margin := (l : Int) - a }
        let judged : PairCount := { p with
          valid := sat16 p.valid,
          fail := if l < a then sat16 p.fail else p.fail,
          worst := some (match p.worst with
            | some old => if (l : Int) - a < old.margin then this else old
            | none => this) }
        ∃ row', u.pairs[k]? = some row' ∧ row'[j]? = some
          (if e ≠ .included then p
           else if b.n * 65536 ≤ 2 * order * set.revs then { p with invalid := sat16 p.invalid }
           else judged))) ∧
  (∀ (w : Window) (k j : Nat) (row : List PairCount) (c : Nat) (e : ChannelEntry) (p : PairCount),
    w.pairs[k]? = some row → w.channels[j]? = some (c, e) → row[j]? = some p →
    ∃ row', w.spoilAll.pairs[k]? = some row' ∧
      row'[j]? = some (if e = .included then { p with invalid := sat16 p.invalid } else p)) ∧
  (∀ (s : State) (w : Window) (set : OrderSet), s.engine.window = some w → s.activeSet w.slot = some set →
    let verdict (e : ChannelEntry) (p : PairCount) : FindingVerdict :=
      if e = .excluded then .unavailable
      else if set.failCount ≤ p.fail then .fail
      else if p.valid < set.minValid then .fewBlocks
      else .pass
    let findings : List Finding := w.pairs.zipIdx.flatMap (fun row => (w.channels.zip row.1).map (fun pair =>
      { segment := w.segment, order := row.2, channel := pair.1.1, valid := pair.2.valid, fail := pair.2.fail,
        invalid := pair.2.invalid, worst := pair.2.worst, verdict := verdict pair.1.2 pair.2 }))
    let t := (closeWindow s).2
    (closeWindow s).1 = w.validBlocks ∧ JobStep s t ∧
    t.engine = { window := none, failSeen := s.engine.failSeen || findings.any (fun f => f.verdict = .fail),
                 noResultSeen := s.engine.noResultSeen ||
                   findings.any (fun f => f.verdict = .fewBlocks || f.verdict = .unavailable),
                 unavailableSeen := s.engine.unavailableSeen } ∧
    t.units = s.units.map (fun u => if u.position = .bayA then findings.foldl offerFinding u else u) ∧
    (∀ o, s.orderSlot w.slot = some o → o.swapPending = true →
      t.orderSlot w.slot = some { active := o.shadow, shadow := o.shadow, swapPending := false } ∧
      (∀ n, n ≠ w.slot → t.orderSlot n = s.orderSlot n) ∧
      t.notices = (raise s .orderSetSwapped (some .a) (s.serialAt .bayA) (.number w.slot)).notices) ∧
    (∀ o, s.orderSlot w.slot = some o → o.swapPending = false → t.tables = s.tables ∧ t.notices = s.notices)) ∧
  (∀ (u : UnitRecord) (f : Finding),
    let lower (x y : Finding) : Prop := match x.worst, y.worst with
      | some a, some b => a.margin < b.margin
      | some _, none => True
      | none, _ => False
    (u.findings.length < 48 → offerFinding u f = { u with findings := u.findings ++ [f] }) ∧
    (48 ≤ u.findings.length → ∃ front g back, u.findings = front ++ g :: back ∧ (∀ x ∈ front, lower x g) ∧
      (∀ x ∈ back, ¬lower g x) ∧
      (lower f g → offerFinding u f = { u with findings := front ++ back ++ [f], truncated := true }) ∧
      (¬lower f g → offerFinding u f = { u with truncated := true })))

/-! ## Leak testing -/

/-- START_LEAK (R122, R123, R127): refused with the first of the reasons; accepted, leak becomes RUNNING without a result, a
retest counts, the measure count of the last test is cleared, and the test begins in FILL with a FILL command.  That an
idle line chooses between the command and the reply only at the end of the step is the model's choice
(notes/assumptions/37.md). -/
def Obligations.StartLeakBeginsInFill : Prop :=
  (∀ (s : State) (q : Request), s.takes q .startLeak → s.unitAt .bayB = none →
    answers .startLeak s q (refusal .bayEmpty) (dequeue s)) ∧
  (∀ (s : State) (q : Request) (u : UnitRecord) (n : Nat) (v : Variant) (stats : Stats), s.takes q .startLeak →
    s.unitAt .bayB = some u → s.lookup u.variantId = some (n, v, stats) →
    let code := firstCode
      [(s.leak.run.isSome, .active),
       ((match u.leak with
         | .running | .done .pass => true
         | .done (.fail _) => decide (v.retestLimit ≤ u.retests)
         | .notRun | .done (.aborted _) => false), .wrongState),
       (s.stand.isNone || (s.select .pressure .b).isNone, .notReady)]
    (code ≠ .ok → answers .startLeak s q (refusal code) (dequeue s)) ∧
    (∀ st ch, code = .ok → s.stand = some st → s.select .pressure .b = some ch →
      let number := (s.leak.commandNumber + 1) % 256
      answers .startLeak s q okEmpty
        { dequeue s with
          units := s.units.map (fun x => if x.position = .bayB then
            { x with leak := .running, leakResult := none,
                     retests := (match x.leak with | .done (.fail _) => x.retests + 1 | _ => x.retests) } else x),
          leak :=
            { commandNumber := number, lastCommand := some .fill, refreshStart := some s.timeBase, suppressed := false,
              count := 0,
              run := some
                { phase := .fill, phaseStart := s.timeBase, channel := ch.1, stand := st, variant := v, tMs := none,
                  ambient := none, first := [], recent := [], pending := none, result := none, written := false } },
          arbiter := { s.arbiter with valveSlot := some (st.valveNode, { kind := .fill, number := number }) } }))

/-- The ends of FILL, SETTLE and MEASURE by request and by time: ABORT_LEAK (R135), FILL_TIMEOUT (R127), LEAK_SETTLE_END
(R128, R129) and MEASURE_END (R131), each outcome leading to VENT with its command (R134); in VENT, FAULTED and IDLE an
outcome is not taken.  An event that is not due changes nothing (notes/assumptions/6.md). -/
def Obligations.LeakPhasesEnd : Prop :=
  (∀ (s : State) (o : LeakOutcome) (result : Option LeakResult),
    (∀ st r, s.leak.run = some r → s.stand = some st → r.phase.testing = true →
      LeakOutcomeTaken s st r o result (takeLeakOutcome s o result)) ∧
    ((∀ r, s.leak.run = some r → r.phase.testing = false) → takeLeakOutcome s o result = s)) ∧
  (∀ (s : State) (q : Request) (st : Stand) (r : LeakRun), s.takes q .abortLeak → s.stand = some st →
    s.leak.run = some r → r.phase.testing = true →
    ∃ u, LeakOutcomeTaken (dequeue s) st r (.aborted .request) none u ∧ answers .abortLeak s q okEmpty u) ∧
  (∀ (s : State) (q : Request) (r : LeakRun), s.takes q .abortLeak → s.leak.run = some r →
    r.phase.testing = false → answers .abortLeak s q okEmpty (dequeue s)) ∧
  (∀ (s : State) (q : Request), s.takes q .abortLeak → s.leak.run = none →
    answers .abortLeak s q (refusal .notActive) (dequeue s)) ∧
  (∀ (s : State) (st : Stand) (r : LeakRun), s.pins.resetHeld = false → s.stand = some st → s.leak.run = some r →
    (r.phase = .fill → r.variant.fillTimeout ≤ elapsed s.timeBase r.phaseStart →
      ∃ u, LeakOutcomeTaken s st r (.fail .gross) none u ∧ happens .fillTimeout s u) ∧
    (r.phase = .settle → r.variant.settleTime ≤ elapsed s.timeBase r.phaseStart →
      happens .leakSettleEnd s (s.setLeak { s.leak with
        count := 0,
        run := some { r with
          phase := .measure, phaseStart := s.timeBase, tMs := some s.timeBase, first := [], recent := [],
          ambient := some (match (s.select .ambientTemp .b).bind (fun x => x.2.lastValue) with
                   | some a => a
                   | none => r.stand.defaultAmbient) } })) ∧
    (r.phase = .measure → r.variant.measureTime ≤ elapsed s.timeBase r.phaseStart → (s.unitAt .bayB).isSome = true →
      (s.leak.count = 0 → ∃ u, LeakOutcomeTaken s st r (.aborted .stream) none u ∧ happens .measureEnd s u) ∧
      (∀ unit a tMs, s.leak.count ≠ 0 → s.unitAt .bayB = some unit → r.ambient = some a → r.tMs = some tMs →
        let result := leakComputation r.stand r.variant unit a tMs (Int.fdiv r.first.sum r.first.length)
          (Int.fdiv r.recent.sum r.recent.length)
        ∃ u, LeakOutcomeTaken s st r (if result.q ≤ r.variant.leakLimit then .pass else .fail .rate) (some result) u ∧
          happens .measureEnd s u)) ∧
    ((r.phase ≠ .fill ∨ elapsed s.timeBase r.phaseStart < r.variant.fillTimeout) → exec .fillTimeout s = .next s) ∧
    ((r.phase ≠ .settle ∨ elapsed s.timeBase r.phaseStart < r.variant.settleTime) →
      exec .leakSettleEnd s = .next s) ∧
    ((r.phase ≠ .measure ∨ elapsed s.timeBase r.phaseStart < r.variant.measureTime) →
      exec .measureEnd s = .next s))

/-- A value published by the required channel is the test's pressure, and no other is (R126).  A pressure is judged by the
state it finds: the three rows of FILL (R127), whose middle one enters SETTLE, and with a settle time of 0 MEASURE at once
(R128, R129); the lower limit of SETTLE (R128); the measure count and the two lists of MEASURE (R130); and the vent
threshold of VENT (R136), which leaves the measure count for READ_STATUS (DEDUCED, notes/assumptions/38.md); in FAULTED it
is not taken (R126). -/
def Obligations.PressuresAreJudgedByTheState : Prop :=
  (∀ (s : State) (p : Published),
    ((∀ r, s.leak.run = some r → p.channel ≠ r.channel) → leakValue s p = s) ∧
    (∀ r, s.leak.run = some r → p.channel = r.channel → leakValue s p = takePressure s r p.value)) ∧
  ∀ (s : State) (st : Stand) (r : LeakRun) (x : Int), s.stand = some st → s.leak.run = some r →
    let target : Int := r.variant.targetPressure
    let band : Int := r.variant.fillBand
    let u := takePressure s r x
    (r.phase = .fill → target + band < x → LeakOutcomeTaken s st r (.aborted .pressureHigh) none u) ∧
    (r.phase = .fill → target - band ≤ x → x ≤ target + band →
      onlyLeakAndSlots s u ∧ valveIssued s u st .isolate ∧ u.leak.suppressed = s.leak.suppressed ∧
      (r.variant.settleTime ≠ 0 → u.leak.count = s.leak.count ∧
        u.leak.run = some { r with phase := .settle, phaseStart := s.timeBase }) ∧
      (r.variant.settleTime = 0 → u.leak.count = 0 ∧
        u.leak.run = some { r with
          phase := .measure, phaseStart := s.timeBase, tMs := some s.timeBase, first := [], recent := [],
          ambient := some (match (s.select .ambientTemp .b).bind (fun y => y.2.lastValue) with
                   | some a => a
                   | none => r.stand.defaultAmbient) })) ∧
    (r.phase = .fill → x < target - band → u = s) ∧
    (r.phase = .settle → x < target - 2 * band → LeakOutcomeTaken s st r (.fail .gross) none u) ∧
    (r.phase = .settle → target - 2 * band ≤ x → u = s) ∧
    (r.phase = .measure → u = s.setLeak { s.leak with
      count := if s.leak.count < 4294967295 then s.leak.count + 1 else 4294967295,
      run := some { r with
        first := if r.first.length < r.variant.window then r.first ++ [x] else r.first,
        recent := if r.variant.window < r.recent.length + 1 then (r.recent ++ [x]).drop 1 else r.recent ++ [x] } }) ∧
    (∀ o, r.phase = .vent → x ≤ r.stand.ventThreshold → r.pending = some o →
      JobStep s u ∧ u.leak.run = none ∧ u.leak.count = s.leak.count ∧ valveIssued s u st .vent ∧
        u.notices = (raise s .leakEnd (some .b) (s.serialAt .bayB) (.leak o)).notices ∧
        u.units = if r.written then s.units else s.units.map (fun y => if y.position = .bayB then
          { y with leak := .done o, leakResult := r.result } else y)) ∧
    (r.phase = .vent → (r.stand.ventThreshold : Int) < x → u = s) ∧
    (r.phase = .faulted → u = s)

/-- VENT_TIMEOUT (R137) writes the outcome, issues VENT, raises VENT_TIMEOUT and blocks the bay; CLEAR_FAULT B (R138)
vents again with leak RUNNING and the outcome kept; VALVE_REFRESH (R125) repeats the last command with its number.  An
event that is not due changes nothing (notes/assumptions/6.md). -/
def Obligations.VentingEndsOrFaults : Prop :=
  (∀ (s : State) (r : LeakRun) (st : Stand) (o : LeakOutcome), s.pins.resetHeld = false → s.leak.run = some r →
    s.stand = some st → r.pending = some o → r.phase = .vent →
    r.stand.ventTimeout ≤ elapsed s.timeBase r.phaseStart →
    ∃ u, happens .ventTimeout s u ∧ JobStep s u ∧
      u.leak.run = some { r with written := true, phase := .faulted, phaseStart := s.timeBase } ∧
      valveIssued s u st .vent ∧
      u.notices = (raise s .ventTimeout (some .b) (s.serialAt .bayB) (.leak o)).notices ∧
      u.units = if r.written then s.units else s.units.map (fun y => if y.position = .bayB then
        { y with leak := .done o, leakResult := r.result } else y)) ∧
  (∀ (s : State), (∀ r, s.leak.run = some r → r.phase ≠ .vent ∨
    elapsed s.timeBase r.phaseStart < r.stand.ventTimeout) → exec .ventTimeout s = .next s) ∧
  (∀ (s : State) (q : Request) (r : LeakRun) (st : Stand), s.takes q (.clearFault .b) → s.leak.run = some r →
    r.phase = .faulted → s.stand = some st → s.leak.suppressed = false →
    let number := (s.leak.commandNumber + 1) % 256
    answers .clearFaultB s q okEmpty
      { dequeue s with
        units := s.units.map (fun y => if y.position = .bayB then
          { y with leak := .running, leakResult := none } else y),
        leak := { s.leak with
          run := some { r with phase := .vent, phaseStart := s.timeBase, written := false },
          commandNumber := number, lastCommand := some .vent, refreshStart := some s.timeBase },
        arbiter := { s.arbiter with valveSlot := some (st.valveNode, { kind := .vent, number := number }) } }) ∧
  (∀ (s : State) (q : Request), s.takes q (.clearFault .b) → (∀ r, s.leak.run = some r → r.phase ≠ .faulted) →
    answers .clearFaultB s q (refusal .notActive) (dequeue s)) ∧
  (∀ (s : State) (r : LeakRun) (st : Stand) (kind : ValveKind) (start : Time), s.pins.resetHeld = false →
    s.leak.run = some r → s.stand = some st → s.leak.lastCommand = some kind → s.leak.refreshStart = some start →
    r.phase ≠ .faulted → s.leak.suppressed = false → r.stand.refresh ≤ elapsed s.timeBase start →
    happens .valveRefresh s
      { s with leak := { s.leak with refreshStart := some s.timeBase },
               arbiter := { s.arbiter with
                 valveSlot := some (st.valveNode, { kind := kind, number := s.leak.commandNumber }) } }) ∧
  (∀ (s : State), (∀ r start, s.leak.run = some r → s.leak.refreshStart = some start → r.phase = .faulted ∨
    s.leak.suppressed = true ∨ elapsed s.timeBase start < r.stand.refresh) → exec .valveRefresh s = .next s)

/-- The leak computation (R132, R133): its terms, and the bounds that section 8.7 states of every result: the thermal term
is not negative, the leak term lies between 0 and the measured fall, Q lies in 0..65535, and a result flagged GAIN has a
Q of 0. -/
def Obligations.LeakResultIsComputedAndBounded : Prop :=
  ∀ (st : Stand) (v : Variant) (u : UnitRecord) (a : Int) (tMs : Time) (p1 p2 : Int),
    80000 ≤ st.patm → 1000 ≤ v.measureTime → 60000 ≤ v.coolingSpan →
    let r := leakComputation st v u a tMs p1 p2
    let e0 : Nat := match u.tEnd, u.tEndAt with | some t, some _ => (max 0 (t - a)).toNat | _, _ => 0
    let t1 : Nat := match u.tEndAt with | some t => elapsed tMs t | none => 0
    let e (t : Nat) : Nat := e0 * (v.coolingSpan - t) / v.coolingSpan
    r.p1 = p1 ∧ r.p2 = p2 ∧ r.dMeas = p1 - p2 ∧
    r.dTherm = Int.fdiv (max 0 (p1 + st.patm) * ((e t1 : Int) - e (t1 + v.measureTime)))
      (max 20000 (27315 + a + e t1)) ∧
    r.dLeak = max 0 (p1 - p2 - r.dTherm) ∧ (r.gain = true ↔ p1 - p2 - r.dTherm < 0) ∧
    (r.uncompensated = true ↔ u.tEnd = none ∨ u.tEndAt = none) ∧
    (r.q : Int) = min 65535 (Int.fdiv (r.dLeak * v.volume * 6000000) ((st.patm : Int) * v.measureTime)) ∧
    0 ≤ r.dTherm ∧ 0 ≤ r.dLeak ∧ r.dLeak ≤ max 0 r.dMeas ∧ r.q ≤ 65535 ∧ (r.gain = true → r.q = 0)

/-! ## What every step keeps -/

/-- Every step keeps the buffers, queues, tables and counts inside what their chapters give them, and the Unit List as R67
states it: its length, its serials, its arrangement from oldest to newest and the records at the bays. -/
def Obligations.EveryStepKeepsBoundsAndUnitList : Prop :=
  ∀ s t : State, step s = .next t → (s.Bounded → t.Bounded) ∧ (s.LineSound → t.LineSound)

/-- Every step keeps every slot's statistics sound (R142 to R145). -/
def Obligations.EveryStepKeepsTheStatisticsSound : Prop :=
  ∀ s t : State, s.StatsSound → step s = .next t → t.StatsSound

/-- Every step keeps the Angle Unit's slip counts, sample counts and angle inside their values (R38 to R44). -/
def Obligations.EveryStepKeepsTheAngleSound : Prop :=
  ∀ s t : State, s.AngleSound → step s = .next t → t.AngleSound

/-- Every step keeps the drive from being told to turn when it may not (R88, R89, R96, R97, R101, R169). -/
def Obligations.EveryStepKeepsTheDriveSafe : Prop :=
  ∀ s t : State, s.DriveSound → step s = .next t → t.DriveSound

/-- Every step keeps the valves from being told to fill or isolate when they may not (R124, R125, R136, R139, R169). -/
def Obligations.EveryStepKeepsTheValvesSafe : Prop :=
  ∀ s t : State, s.ValveSound → step s = .next t → t.ValveSound

/-- The state after reset has every property that the steps keep. -/
def Obligations.ResetStateIsSound : Prop :=
  State.reset.Bounded ∧ State.reset.LineSound ∧ State.reset.StatsSound ∧ State.reset.AngleSound ∧
    State.reset.DriveSound ∧ State.reset.ValveSound

end
end

