-- ==== Sys2Proof/Laws/Lists.lean ====
section
/-! SUPPORT. What the list helpers of Machine/Arith.lean keep. -/

namespace Sys2Proof.Machine

@[simp] theorem modifyAt_length {α : Type} (f : α → α) (xs : List α) (i : Nat) : (modifyAt f xs i).length = xs.length := by
  induction xs generalizing i with
  | nil => rfl
  | cons x xs ih => cases i <;> simp [modifyAt, ih]

theorem modifyAt_getElem? {α : Type} (f : α → α) (xs : List α) (i j : Nat) :
    (modifyAt f xs i)[j]? = if i = j then xs[j]?.map f else xs[j]? := by
  induction xs generalizing i j with
  | nil => simp [modifyAt]
  | cons x xs ih => cases i <;> cases j <;> simp [modifyAt, ih]

@[simp] theorem modifyAt_map {α β : Type} (f : α → α) (g : α → β) (h : ∀ x, g (f x) = g x) (xs : List α) (i : Nat) :
    (modifyAt f xs i).map g = xs.map g := by
  induction xs generalizing i with
  | nil => rfl
  | cons x xs ih => cases i <;> simp [modifyAt, ih, h]

theorem satSucc_le {max n : Nat} : satSucc max n ≤ max := by unfold satSucc; split <;> omega

theorem satSucc_eq {max n : Nat} (h : n ≤ max) : satSucc max n = min max (n + 1) := by unfold satSucc; split <;> omega

end Sys2Proof.Machine
end

