-- ==== Sys2Proof/Laws/State.lean ====
section
/-! SUPPORT. One lemma per field per update of the state, so that no proof unfolds a record update. -/

namespace Sys2Proof.Machine

variable (s : State)

section
variable (x : Pins)
@[simp] theorem State.setPins_pins : (s.setPins x).pins = x := rfl
@[simp] theorem State.setPins_timeBase : (s.setPins x).timeBase = s.timeBase := rfl
@[simp] theorem State.setPins_ring : (s.setPins x).ring = s.ring := rfl
@[simp] theorem State.setPins_streams : (s.setPins x).streams = s.streams := rfl
@[simp] theorem State.setPins_channels : (s.setPins x).channels = s.channels := rfl
@[simp] theorem State.setPins_angle : (s.setPins x).angle = s.angle := rfl
@[simp] theorem State.setPins_stand : (s.setPins x).stand = s.stand := rfl
@[simp] theorem State.setPins_tables : (s.setPins x).tables = s.tables := rfl
@[simp] theorem State.setPins_units : (s.setPins x).units = s.units := rfl
@[simp] theorem State.setPins_runIn : (s.setPins x).runIn = s.runIn := rfl
@[simp] theorem State.setPins_engine : (s.setPins x).engine = s.engine := rfl
@[simp] theorem State.setPins_leak : (s.setPins x).leak = s.leak := rfl
@[simp] theorem State.setPins_reports : (s.setPins x).reports = s.reports := rfl
@[simp] theorem State.setPins_notices : (s.setPins x).notices = s.notices := rfl
@[simp] theorem State.setPins_arbiter : (s.setPins x).arbiter = s.arbiter := rfl
@[simp] theorem State.setPins_requests : (s.setPins x).requests = s.requests := rfl
@[simp] theorem State.setPins_loader : (s.setPins x).loader = s.loader := rfl
@[simp] theorem State.setPins_freeCount : (s.setPins x).freeCount = s.freeCount := rfl
@[simp] theorem State.setPins_pending : (s.setPins x).pending = s.pending := rfl
end

section
variable (x : Time)
@[simp] theorem State.setTimeBase_pins : (s.setTimeBase x).pins = s.pins := rfl
@[simp] theorem State.setTimeBase_timeBase : (s.setTimeBase x).timeBase = x := rfl
@[simp] theorem State.setTimeBase_ring : (s.setTimeBase x).ring = s.ring := rfl
@[simp] theorem State.setTimeBase_streams : (s.setTimeBase x).streams = s.streams := rfl
@[simp] theorem State.setTimeBase_channels : (s.setTimeBase x).channels = s.channels := rfl
@[simp] theorem State.setTimeBase_angle : (s.setTimeBase x).angle = s.angle := rfl
@[simp] theorem State.setTimeBase_stand : (s.setTimeBase x).stand = s.stand := rfl
@[simp] theorem State.setTimeBase_tables : (s.setTimeBase x).tables = s.tables := rfl
@[simp] theorem State.setTimeBase_units : (s.setTimeBase x).units = s.units := rfl
@[simp] theorem State.setTimeBase_runIn : (s.setTimeBase x).runIn = s.runIn := rfl
@[simp] theorem State.setTimeBase_engine : (s.setTimeBase x).engine = s.engine := rfl
@[simp] theorem State.setTimeBase_leak : (s.setTimeBase x).leak = s.leak := rfl
@[simp] theorem State.setTimeBase_reports : (s.setTimeBase x).reports = s.reports := rfl
@[simp] theorem State.setTimeBase_notices : (s.setTimeBase x).notices = s.notices := rfl
@[simp] theorem State.setTimeBase_arbiter : (s.setTimeBase x).arbiter = s.arbiter := rfl
@[simp] theorem State.setTimeBase_requests : (s.setTimeBase x).requests = s.requests := rfl
@[simp] theorem State.setTimeBase_loader : (s.setTimeBase x).loader = s.loader := rfl
@[simp] theorem State.setTimeBase_freeCount : (s.setTimeBase x).freeCount = s.freeCount := rfl
@[simp] theorem State.setTimeBase_pending : (s.setTimeBase x).pending = s.pending := rfl
end

section
variable (x : Ring)
@[simp] theorem State.setRing_pins : (s.setRing x).pins = s.pins := rfl
@[simp] theorem State.setRing_timeBase : (s.setRing x).timeBase = s.timeBase := rfl
@[simp] theorem State.setRing_ring : (s.setRing x).ring = x := rfl
@[simp] theorem State.setRing_streams : (s.setRing x).streams = s.streams := rfl
@[simp] theorem State.setRing_channels : (s.setRing x).channels = s.channels := rfl
@[simp] theorem State.setRing_angle : (s.setRing x).angle = s.angle := rfl
@[simp] theorem State.setRing_stand : (s.setRing x).stand = s.stand := rfl
@[simp] theorem State.setRing_tables : (s.setRing x).tables = s.tables := rfl
@[simp] theorem State.setRing_units : (s.setRing x).units = s.units := rfl
@[simp] theorem State.setRing_runIn : (s.setRing x).runIn = s.runIn := rfl
@[simp] theorem State.setRing_engine : (s.setRing x).engine = s.engine := rfl
@[simp] theorem State.setRing_leak : (s.setRing x).leak = s.leak := rfl
@[simp] theorem State.setRing_reports : (s.setRing x).reports = s.reports := rfl
@[simp] theorem State.setRing_notices : (s.setRing x).notices = s.notices := rfl
@[simp] theorem State.setRing_arbiter : (s.setRing x).arbiter = s.arbiter := rfl
@[simp] theorem State.setRing_requests : (s.setRing x).requests = s.requests := rfl
@[simp] theorem State.setRing_loader : (s.setRing x).loader = s.loader := rfl
@[simp] theorem State.setRing_freeCount : (s.setRing x).freeCount = s.freeCount := rfl
@[simp] theorem State.setRing_pending : (s.setRing x).pending = s.pending := rfl
end

section
variable (x : List StreamEntry)
@[simp] theorem State.setStreams_pins : (s.setStreams x).pins = s.pins := rfl
@[simp] theorem State.setStreams_timeBase : (s.setStreams x).timeBase = s.timeBase := rfl
@[simp] theorem State.setStreams_ring : (s.setStreams x).ring = s.ring := rfl
@[simp] theorem State.setStreams_streams : (s.setStreams x).streams = x := rfl
@[simp] theorem State.setStreams_channels : (s.setStreams x).channels = s.channels := rfl
@[simp] theorem State.setStreams_angle : (s.setStreams x).angle = s.angle := rfl
@[simp] theorem State.setStreams_stand : (s.setStreams x).stand = s.stand := rfl
@[simp] theorem State.setStreams_tables : (s.setStreams x).tables = s.tables := rfl
@[simp] theorem State.setStreams_units : (s.setStreams x).units = s.units := rfl
@[simp] theorem State.setStreams_runIn : (s.setStreams x).runIn = s.runIn := rfl
@[simp] theorem State.setStreams_engine : (s.setStreams x).engine = s.engine := rfl
@[simp] theorem State.setStreams_leak : (s.setStreams x).leak = s.leak := rfl
@[simp] theorem State.setStreams_reports : (s.setStreams x).reports = s.reports := rfl
@[simp] theorem State.setStreams_notices : (s.setStreams x).notices = s.notices := rfl
@[simp] theorem State.setStreams_arbiter : (s.setStreams x).arbiter = s.arbiter := rfl
@[simp] theorem State.setStreams_requests : (s.setStreams x).requests = s.requests := rfl
@[simp] theorem State.setStreams_loader : (s.setStreams x).loader = s.loader := rfl
@[simp] theorem State.setStreams_freeCount : (s.setStreams x).freeCount = s.freeCount := rfl
@[simp] theorem State.setStreams_pending : (s.setStreams x).pending = s.pending := rfl
end

section
variable (x : List Channel)
@[simp] theorem State.setChannels_pins : (s.setChannels x).pins = s.pins := rfl
@[simp] theorem State.setChannels_timeBase : (s.setChannels x).timeBase = s.timeBase := rfl
@[simp] theorem State.setChannels_ring : (s.setChannels x).ring = s.ring := rfl
@[simp] theorem State.setChannels_streams : (s.setChannels x).streams = s.streams := rfl
@[simp] theorem State.setChannels_channels : (s.setChannels x).channels = x := rfl
@[simp] theorem State.setChannels_angle : (s.setChannels x).angle = s.angle := rfl
@[simp] theorem State.setChannels_stand : (s.setChannels x).stand = s.stand := rfl
@[simp] theorem State.setChannels_tables : (s.setChannels x).tables = s.tables := rfl
@[simp] theorem State.setChannels_units : (s.setChannels x).units = s.units := rfl
@[simp] theorem State.setChannels_runIn : (s.setChannels x).runIn = s.runIn := rfl
@[simp] theorem State.setChannels_engine : (s.setChannels x).engine = s.engine := rfl
@[simp] theorem State.setChannels_leak : (s.setChannels x).leak = s.leak := rfl
@[simp] theorem State.setChannels_reports : (s.setChannels x).reports = s.reports := rfl
@[simp] theorem State.setChannels_notices : (s.setChannels x).notices = s.notices := rfl
@[simp] theorem State.setChannels_arbiter : (s.setChannels x).arbiter = s.arbiter := rfl
@[simp] theorem State.setChannels_requests : (s.setChannels x).requests = s.requests := rfl
@[simp] theorem State.setChannels_loader : (s.setChannels x).loader = s.loader := rfl
@[simp] theorem State.setChannels_freeCount : (s.setChannels x).freeCount = s.freeCount := rfl
@[simp] theorem State.setChannels_pending : (s.setChannels x).pending = s.pending := rfl
end

section
variable (x : Angle)
@[simp] theorem State.setAngle_pins : (s.setAngle x).pins = s.pins := rfl
@[simp] theorem State.setAngle_timeBase : (s.setAngle x).timeBase = s.timeBase := rfl
@[simp] theorem State.setAngle_ring : (s.setAngle x).ring = s.ring := rfl
@[simp] theorem State.setAngle_streams : (s.setAngle x).streams = s.streams := rfl
@[simp] theorem State.setAngle_channels : (s.setAngle x).channels = s.channels := rfl
@[simp] theorem State.setAngle_angle : (s.setAngle x).angle = x := rfl
@[simp] theorem State.setAngle_stand : (s.setAngle x).stand = s.stand := rfl
@[simp] theorem State.setAngle_tables : (s.setAngle x).tables = s.tables := rfl
@[simp] theorem State.setAngle_units : (s.setAngle x).units = s.units := rfl
@[simp] theorem State.setAngle_runIn : (s.setAngle x).runIn = s.runIn := rfl
@[simp] theorem State.setAngle_engine : (s.setAngle x).engine = s.engine := rfl
@[simp] theorem State.setAngle_leak : (s.setAngle x).leak = s.leak := rfl
@[simp] theorem State.setAngle_reports : (s.setAngle x).reports = s.reports := rfl
@[simp] theorem State.setAngle_notices : (s.setAngle x).notices = s.notices := rfl
@[simp] theorem State.setAngle_arbiter : (s.setAngle x).arbiter = s.arbiter := rfl
@[simp] theorem State.setAngle_requests : (s.setAngle x).requests = s.requests := rfl
@[simp] theorem State.setAngle_loader : (s.setAngle x).loader = s.loader := rfl
@[simp] theorem State.setAngle_freeCount : (s.setAngle x).freeCount = s.freeCount := rfl
@[simp] theorem State.setAngle_pending : (s.setAngle x).pending = s.pending := rfl
end

section
variable (x : Option Stand)
@[simp] theorem State.setStand_pins : (s.setStand x).pins = s.pins := rfl
@[simp] theorem State.setStand_timeBase : (s.setStand x).timeBase = s.timeBase := rfl
@[simp] theorem State.setStand_ring : (s.setStand x).ring = s.ring := rfl
@[simp] theorem State.setStand_streams : (s.setStand x).streams = s.streams := rfl
@[simp] theorem State.setStand_channels : (s.setStand x).channels = s.channels := rfl
@[simp] theorem State.setStand_angle : (s.setStand x).angle = s.angle := rfl
@[simp] theorem State.setStand_stand : (s.setStand x).stand = x := rfl
@[simp] theorem State.setStand_tables : (s.setStand x).tables = s.tables := rfl
@[simp] theorem State.setStand_units : (s.setStand x).units = s.units := rfl
@[simp] theorem State.setStand_runIn : (s.setStand x).runIn = s.runIn := rfl
@[simp] theorem State.setStand_engine : (s.setStand x).engine = s.engine := rfl
@[simp] theorem State.setStand_leak : (s.setStand x).leak = s.leak := rfl
@[simp] theorem State.setStand_reports : (s.setStand x).reports = s.reports := rfl
@[simp] theorem State.setStand_notices : (s.setStand x).notices = s.notices := rfl
@[simp] theorem State.setStand_arbiter : (s.setStand x).arbiter = s.arbiter := rfl
@[simp] theorem State.setStand_requests : (s.setStand x).requests = s.requests := rfl
@[simp] theorem State.setStand_loader : (s.setStand x).loader = s.loader := rfl
@[simp] theorem State.setStand_freeCount : (s.setStand x).freeCount = s.freeCount := rfl
@[simp] theorem State.setStand_pending : (s.setStand x).pending = s.pending := rfl
end

section
variable (x : Option Tables)
@[simp] theorem State.setTables_pins : (s.setTables x).pins = s.pins := rfl
@[simp] theorem State.setTables_timeBase : (s.setTables x).timeBase = s.timeBase := rfl
@[simp] theorem State.setTables_ring : (s.setTables x).ring = s.ring := rfl
@[simp] theorem State.setTables_streams : (s.setTables x).streams = s.streams := rfl
@[simp] theorem State.setTables_channels : (s.setTables x).channels = s.channels := rfl
@[simp] theorem State.setTables_angle : (s.setTables x).angle = s.angle := rfl
@[simp] theorem State.setTables_stand : (s.setTables x).stand = s.stand := rfl
@[simp] theorem State.setTables_tables : (s.setTables x).tables = x := rfl
@[simp] theorem State.setTables_units : (s.setTables x).units = s.units := rfl
@[simp] theorem State.setTables_runIn : (s.setTables x).runIn = s.runIn := rfl
@[simp] theorem State.setTables_engine : (s.setTables x).engine = s.engine := rfl
@[simp] theorem State.setTables_leak : (s.setTables x).leak = s.leak := rfl
@[simp] theorem State.setTables_reports : (s.setTables x).reports = s.reports := rfl
@[simp] theorem State.setTables_notices : (s.setTables x).notices = s.notices := rfl
@[simp] theorem State.setTables_arbiter : (s.setTables x).arbiter = s.arbiter := rfl
@[simp] theorem State.setTables_requests : (s.setTables x).requests = s.requests := rfl
@[simp] theorem State.setTables_loader : (s.setTables x).loader = s.loader := rfl
@[simp] theorem State.setTables_freeCount : (s.setTables x).freeCount = s.freeCount := rfl
@[simp] theorem State.setTables_pending : (s.setTables x).pending = s.pending := rfl
end

section
variable (x : List UnitRecord)
@[simp] theorem State.setUnits_pins : (s.setUnits x).pins = s.pins := rfl
@[simp] theorem State.setUnits_timeBase : (s.setUnits x).timeBase = s.timeBase := rfl
@[simp] theorem State.setUnits_ring : (s.setUnits x).ring = s.ring := rfl
@[simp] theorem State.setUnits_streams : (s.setUnits x).streams = s.streams := rfl
@[simp] theorem State.setUnits_channels : (s.setUnits x).channels = s.channels := rfl
@[simp] theorem State.setUnits_angle : (s.setUnits x).angle = s.angle := rfl
@[simp] theorem State.setUnits_stand : (s.setUnits x).stand = s.stand := rfl
@[simp] theorem State.setUnits_tables : (s.setUnits x).tables = s.tables := rfl
@[simp] theorem State.setUnits_units : (s.setUnits x).units = x := rfl
@[simp] theorem State.setUnits_runIn : (s.setUnits x).runIn = s.runIn := rfl
@[simp] theorem State.setUnits_engine : (s.setUnits x).engine = s.engine := rfl
@[simp] theorem State.setUnits_leak : (s.setUnits x).leak = s.leak := rfl
@[simp] theorem State.setUnits_reports : (s.setUnits x).reports = s.reports := rfl
@[simp] theorem State.setUnits_notices : (s.setUnits x).notices = s.notices := rfl
@[simp] theorem State.setUnits_arbiter : (s.setUnits x).arbiter = s.arbiter := rfl
@[simp] theorem State.setUnits_requests : (s.setUnits x).requests = s.requests := rfl
@[simp] theorem State.setUnits_loader : (s.setUnits x).loader = s.loader := rfl
@[simp] theorem State.setUnits_freeCount : (s.setUnits x).freeCount = s.freeCount := rfl
@[simp] theorem State.setUnits_pending : (s.setUnits x).pending = s.pending := rfl
end

section
variable (x : RunIn)
@[simp] theorem State.setRunIn_pins : (s.setRunIn x).pins = s.pins := rfl
@[simp] theorem State.setRunIn_timeBase : (s.setRunIn x).timeBase = s.timeBase := rfl
@[simp] theorem State.setRunIn_ring : (s.setRunIn x).ring = s.ring := rfl
@[simp] theorem State.setRunIn_streams : (s.setRunIn x).streams = s.streams := rfl
@[simp] theorem State.setRunIn_channels : (s.setRunIn x).channels = s.channels := rfl
@[simp] theorem State.setRunIn_angle : (s.setRunIn x).angle = s.angle := rfl
@[simp] theorem State.setRunIn_stand : (s.setRunIn x).stand = s.stand := rfl
@[simp] theorem State.setRunIn_tables : (s.setRunIn x).tables = s.tables := rfl
@[simp] theorem State.setRunIn_units : (s.setRunIn x).units = s.units := rfl
@[simp] theorem State.setRunIn_runIn : (s.setRunIn x).runIn = x := rfl
@[simp] theorem State.setRunIn_engine : (s.setRunIn x).engine = s.engine := rfl
@[simp] theorem State.setRunIn_leak : (s.setRunIn x).leak = s.leak := rfl
@[simp] theorem State.setRunIn_reports : (s.setRunIn x).reports = s.reports := rfl
@[simp] theorem State.setRunIn_notices : (s.setRunIn x).notices = s.notices := rfl
@[simp] theorem State.setRunIn_arbiter : (s.setRunIn x).arbiter = s.arbiter := rfl
@[simp] theorem State.setRunIn_requests : (s.setRunIn x).requests = s.requests := rfl
@[simp] theorem State.setRunIn_loader : (s.setRunIn x).loader = s.loader := rfl
@[simp] theorem State.setRunIn_freeCount : (s.setRunIn x).freeCount = s.freeCount := rfl
@[simp] theorem State.setRunIn_pending : (s.setRunIn x).pending = s.pending := rfl
end

section
variable (x : Engine)
@[simp] theorem State.setEngine_pins : (s.setEngine x).pins = s.pins := rfl
@[simp] theorem State.setEngine_timeBase : (s.setEngine x).timeBase = s.timeBase := rfl
@[simp] theorem State.setEngine_ring : (s.setEngine x).ring = s.ring := rfl
@[simp] theorem State.setEngine_streams : (s.setEngine x).streams = s.streams := rfl
@[simp] theorem State.setEngine_channels : (s.setEngine x).channels = s.channels := rfl
@[simp] theorem State.setEngine_angle : (s.setEngine x).angle = s.angle := rfl
@[simp] theorem State.setEngine_stand : (s.setEngine x).stand = s.stand := rfl
@[simp] theorem State.setEngine_tables : (s.setEngine x).tables = s.tables := rfl
@[simp] theorem State.setEngine_units : (s.setEngine x).units = s.units := rfl
@[simp] theorem State.setEngine_runIn : (s.setEngine x).runIn = s.runIn := rfl
@[simp] theorem State.setEngine_engine : (s.setEngine x).engine = x := rfl
@[simp] theorem State.setEngine_leak : (s.setEngine x).leak = s.leak := rfl
@[simp] theorem State.setEngine_reports : (s.setEngine x).reports = s.reports := rfl
@[simp] theorem State.setEngine_notices : (s.setEngine x).notices = s.notices := rfl
@[simp] theorem State.setEngine_arbiter : (s.setEngine x).arbiter = s.arbiter := rfl
@[simp] theorem State.setEngine_requests : (s.setEngine x).requests = s.requests := rfl
@[simp] theorem State.setEngine_loader : (s.setEngine x).loader = s.loader := rfl
@[simp] theorem State.setEngine_freeCount : (s.setEngine x).freeCount = s.freeCount := rfl
@[simp] theorem State.setEngine_pending : (s.setEngine x).pending = s.pending := rfl
end

section
variable (x : Leak)
@[simp] theorem State.setLeak_pins : (s.setLeak x).pins = s.pins := rfl
@[simp] theorem State.setLeak_timeBase : (s.setLeak x).timeBase = s.timeBase := rfl
@[simp] theorem State.setLeak_ring : (s.setLeak x).ring = s.ring := rfl
@[simp] theorem State.setLeak_streams : (s.setLeak x).streams = s.streams := rfl
@[simp] theorem State.setLeak_channels : (s.setLeak x).channels = s.channels := rfl
@[simp] theorem State.setLeak_angle : (s.setLeak x).angle = s.angle := rfl
@[simp] theorem State.setLeak_stand : (s.setLeak x).stand = s.stand := rfl
@[simp] theorem State.setLeak_tables : (s.setLeak x).tables = s.tables := rfl
@[simp] theorem State.setLeak_units : (s.setLeak x).units = s.units := rfl
@[simp] theorem State.setLeak_runIn : (s.setLeak x).runIn = s.runIn := rfl
@[simp] theorem State.setLeak_engine : (s.setLeak x).engine = s.engine := rfl
@[simp] theorem State.setLeak_leak : (s.setLeak x).leak = x := rfl
@[simp] theorem State.setLeak_reports : (s.setLeak x).reports = s.reports := rfl
@[simp] theorem State.setLeak_notices : (s.setLeak x).notices = s.notices := rfl
@[simp] theorem State.setLeak_arbiter : (s.setLeak x).arbiter = s.arbiter := rfl
@[simp] theorem State.setLeak_requests : (s.setLeak x).requests = s.requests := rfl
@[simp] theorem State.setLeak_loader : (s.setLeak x).loader = s.loader := rfl
@[simp] theorem State.setLeak_freeCount : (s.setLeak x).freeCount = s.freeCount := rfl
@[simp] theorem State.setLeak_pending : (s.setLeak x).pending = s.pending := rfl
end

section
variable (x : ReportQueue)
@[simp] theorem State.setReports_pins : (s.setReports x).pins = s.pins := rfl
@[simp] theorem State.setReports_timeBase : (s.setReports x).timeBase = s.timeBase := rfl
@[simp] theorem State.setReports_ring : (s.setReports x).ring = s.ring := rfl
@[simp] theorem State.setReports_streams : (s.setReports x).streams = s.streams := rfl
@[simp] theorem State.setReports_channels : (s.setReports x).channels = s.channels := rfl
@[simp] theorem State.setReports_angle : (s.setReports x).angle = s.angle := rfl
@[simp] theorem State.setReports_stand : (s.setReports x).stand = s.stand := rfl
@[simp] theorem State.setReports_tables : (s.setReports x).tables = s.tables := rfl
@[simp] theorem State.setReports_units : (s.setReports x).units = s.units := rfl
@[simp] theorem State.setReports_runIn : (s.setReports x).runIn = s.runIn := rfl
@[simp] theorem State.setReports_engine : (s.setReports x).engine = s.engine := rfl
@[simp] theorem State.setReports_leak : (s.setReports x).leak = s.leak := rfl
@[simp] theorem State.setReports_reports : (s.setReports x).reports = x := rfl
@[simp] theorem State.setReports_notices : (s.setReports x).notices = s.notices := rfl
@[simp] theorem State.setReports_arbiter : (s.setReports x).arbiter = s.arbiter := rfl
@[simp] theorem State.setReports_requests : (s.setReports x).requests = s.requests := rfl
@[simp] theorem State.setReports_loader : (s.setReports x).loader = s.loader := rfl
@[simp] theorem State.setReports_freeCount : (s.setReports x).freeCount = s.freeCount := rfl
@[simp] theorem State.setReports_pending : (s.setReports x).pending = s.pending := rfl
end

section
variable (x : Notices)
@[simp] theorem State.setNotices_pins : (s.setNotices x).pins = s.pins := rfl
@[simp] theorem State.setNotices_timeBase : (s.setNotices x).timeBase = s.timeBase := rfl
@[simp] theorem State.setNotices_ring : (s.setNotices x).ring = s.ring := rfl
@[simp] theorem State.setNotices_streams : (s.setNotices x).streams = s.streams := rfl
@[simp] theorem State.setNotices_channels : (s.setNotices x).channels = s.channels := rfl
@[simp] theorem State.setNotices_angle : (s.setNotices x).angle = s.angle := rfl
@[simp] theorem State.setNotices_stand : (s.setNotices x).stand = s.stand := rfl
@[simp] theorem State.setNotices_tables : (s.setNotices x).tables = s.tables := rfl
@[simp] theorem State.setNotices_units : (s.setNotices x).units = s.units := rfl
@[simp] theorem State.setNotices_runIn : (s.setNotices x).runIn = s.runIn := rfl
@[simp] theorem State.setNotices_engine : (s.setNotices x).engine = s.engine := rfl
@[simp] theorem State.setNotices_leak : (s.setNotices x).leak = s.leak := rfl
@[simp] theorem State.setNotices_reports : (s.setNotices x).reports = s.reports := rfl
@[simp] theorem State.setNotices_notices : (s.setNotices x).notices = x := rfl
@[simp] theorem State.setNotices_arbiter : (s.setNotices x).arbiter = s.arbiter := rfl
@[simp] theorem State.setNotices_requests : (s.setNotices x).requests = s.requests := rfl
@[simp] theorem State.setNotices_loader : (s.setNotices x).loader = s.loader := rfl
@[simp] theorem State.setNotices_freeCount : (s.setNotices x).freeCount = s.freeCount := rfl
@[simp] theorem State.setNotices_pending : (s.setNotices x).pending = s.pending := rfl
end

section
variable (x : Arbiter)
@[simp] theorem State.setArbiter_pins : (s.setArbiter x).pins = s.pins := rfl
@[simp] theorem State.setArbiter_timeBase : (s.setArbiter x).timeBase = s.timeBase := rfl
@[simp] theorem State.setArbiter_ring : (s.setArbiter x).ring = s.ring := rfl
@[simp] theorem State.setArbiter_streams : (s.setArbiter x).streams = s.streams := rfl
@[simp] theorem State.setArbiter_channels : (s.setArbiter x).channels = s.channels := rfl
@[simp] theorem State.setArbiter_angle : (s.setArbiter x).angle = s.angle := rfl
@[simp] theorem State.setArbiter_stand : (s.setArbiter x).stand = s.stand := rfl
@[simp] theorem State.setArbiter_tables : (s.setArbiter x).tables = s.tables := rfl
@[simp] theorem State.setArbiter_units : (s.setArbiter x).units = s.units := rfl
@[simp] theorem State.setArbiter_runIn : (s.setArbiter x).runIn = s.runIn := rfl
@[simp] theorem State.setArbiter_engine : (s.setArbiter x).engine = s.engine := rfl
@[simp] theorem State.setArbiter_leak : (s.setArbiter x).leak = s.leak := rfl
@[simp] theorem State.setArbiter_reports : (s.setArbiter x).reports = s.reports := rfl
@[simp] theorem State.setArbiter_notices : (s.setArbiter x).notices = s.notices := rfl
@[simp] theorem State.setArbiter_arbiter : (s.setArbiter x).arbiter = x := rfl
@[simp] theorem State.setArbiter_requests : (s.setArbiter x).requests = s.requests := rfl
@[simp] theorem State.setArbiter_loader : (s.setArbiter x).loader = s.loader := rfl
@[simp] theorem State.setArbiter_freeCount : (s.setArbiter x).freeCount = s.freeCount := rfl
@[simp] theorem State.setArbiter_pending : (s.setArbiter x).pending = s.pending := rfl
end

section
variable (x : RequestUnit)
@[simp] theorem State.setRequests_pins : (s.setRequests x).pins = s.pins := rfl
@[simp] theorem State.setRequests_timeBase : (s.setRequests x).timeBase = s.timeBase := rfl
@[simp] theorem State.setRequests_ring : (s.setRequests x).ring = s.ring := rfl
@[simp] theorem State.setRequests_streams : (s.setRequests x).streams = s.streams := rfl
@[simp] theorem State.setRequests_channels : (s.setRequests x).channels = s.channels := rfl
@[simp] theorem State.setRequests_angle : (s.setRequests x).angle = s.angle := rfl
@[simp] theorem State.setRequests_stand : (s.setRequests x).stand = s.stand := rfl
@[simp] theorem State.setRequests_tables : (s.setRequests x).tables = s.tables := rfl
@[simp] theorem State.setRequests_units : (s.setRequests x).units = s.units := rfl
@[simp] theorem State.setRequests_runIn : (s.setRequests x).runIn = s.runIn := rfl
@[simp] theorem State.setRequests_engine : (s.setRequests x).engine = s.engine := rfl
@[simp] theorem State.setRequests_leak : (s.setRequests x).leak = s.leak := rfl
@[simp] theorem State.setRequests_reports : (s.setRequests x).reports = s.reports := rfl
@[simp] theorem State.setRequests_notices : (s.setRequests x).notices = s.notices := rfl
@[simp] theorem State.setRequests_arbiter : (s.setRequests x).arbiter = s.arbiter := rfl
@[simp] theorem State.setRequests_requests : (s.setRequests x).requests = x := rfl
@[simp] theorem State.setRequests_loader : (s.setRequests x).loader = s.loader := rfl
@[simp] theorem State.setRequests_freeCount : (s.setRequests x).freeCount = s.freeCount := rfl
@[simp] theorem State.setRequests_pending : (s.setRequests x).pending = s.pending := rfl
end

section
variable (x : LoaderState)
@[simp] theorem State.setLoader_pins : (s.setLoader x).pins = s.pins := rfl
@[simp] theorem State.setLoader_timeBase : (s.setLoader x).timeBase = s.timeBase := rfl
@[simp] theorem State.setLoader_ring : (s.setLoader x).ring = s.ring := rfl
@[simp] theorem State.setLoader_streams : (s.setLoader x).streams = s.streams := rfl
@[simp] theorem State.setLoader_channels : (s.setLoader x).channels = s.channels := rfl
@[simp] theorem State.setLoader_angle : (s.setLoader x).angle = s.angle := rfl
@[simp] theorem State.setLoader_stand : (s.setLoader x).stand = s.stand := rfl
@[simp] theorem State.setLoader_tables : (s.setLoader x).tables = s.tables := rfl
@[simp] theorem State.setLoader_units : (s.setLoader x).units = s.units := rfl
@[simp] theorem State.setLoader_runIn : (s.setLoader x).runIn = s.runIn := rfl
@[simp] theorem State.setLoader_engine : (s.setLoader x).engine = s.engine := rfl
@[simp] theorem State.setLoader_leak : (s.setLoader x).leak = s.leak := rfl
@[simp] theorem State.setLoader_reports : (s.setLoader x).reports = s.reports := rfl
@[simp] theorem State.setLoader_notices : (s.setLoader x).notices = s.notices := rfl
@[simp] theorem State.setLoader_arbiter : (s.setLoader x).arbiter = s.arbiter := rfl
@[simp] theorem State.setLoader_requests : (s.setLoader x).requests = s.requests := rfl
@[simp] theorem State.setLoader_loader : (s.setLoader x).loader = x := rfl
@[simp] theorem State.setLoader_freeCount : (s.setLoader x).freeCount = s.freeCount := rfl
@[simp] theorem State.setLoader_pending : (s.setLoader x).pending = s.pending := rfl
end

section
variable (x : Nat)
@[simp] theorem State.setFreeCount_pins : (s.setFreeCount x).pins = s.pins := rfl
@[simp] theorem State.setFreeCount_timeBase : (s.setFreeCount x).timeBase = s.timeBase := rfl
@[simp] theorem State.setFreeCount_ring : (s.setFreeCount x).ring = s.ring := rfl
@[simp] theorem State.setFreeCount_streams : (s.setFreeCount x).streams = s.streams := rfl
@[simp] theorem State.setFreeCount_channels : (s.setFreeCount x).channels = s.channels := rfl
@[simp] theorem State.setFreeCount_angle : (s.setFreeCount x).angle = s.angle := rfl
@[simp] theorem State.setFreeCount_stand : (s.setFreeCount x).stand = s.stand := rfl
@[simp] theorem State.setFreeCount_tables : (s.setFreeCount x).tables = s.tables := rfl
@[simp] theorem State.setFreeCount_units : (s.setFreeCount x).units = s.units := rfl
@[simp] theorem State.setFreeCount_runIn : (s.setFreeCount x).runIn = s.runIn := rfl
@[simp] theorem State.setFreeCount_engine : (s.setFreeCount x).engine = s.engine := rfl
@[simp] theorem State.setFreeCount_leak : (s.setFreeCount x).leak = s.leak := rfl
@[simp] theorem State.setFreeCount_reports : (s.setFreeCount x).reports = s.reports := rfl
@[simp] theorem State.setFreeCount_notices : (s.setFreeCount x).notices = s.notices := rfl
@[simp] theorem State.setFreeCount_arbiter : (s.setFreeCount x).arbiter = s.arbiter := rfl
@[simp] theorem State.setFreeCount_requests : (s.setFreeCount x).requests = s.requests := rfl
@[simp] theorem State.setFreeCount_loader : (s.setFreeCount x).loader = s.loader := rfl
@[simp] theorem State.setFreeCount_freeCount : (s.setFreeCount x).freeCount = x := rfl
@[simp] theorem State.setFreeCount_pending : (s.setFreeCount x).pending = s.pending := rfl
end

section
variable (x : List Instr)
@[simp] theorem State.setPending_pins : (s.setPending x).pins = s.pins := rfl
@[simp] theorem State.setPending_timeBase : (s.setPending x).timeBase = s.timeBase := rfl
@[simp] theorem State.setPending_ring : (s.setPending x).ring = s.ring := rfl
@[simp] theorem State.setPending_streams : (s.setPending x).streams = s.streams := rfl
@[simp] theorem State.setPending_channels : (s.setPending x).channels = s.channels := rfl
@[simp] theorem State.setPending_angle : (s.setPending x).angle = s.angle := rfl
@[simp] theorem State.setPending_stand : (s.setPending x).stand = s.stand := rfl
@[simp] theorem State.setPending_tables : (s.setPending x).tables = s.tables := rfl
@[simp] theorem State.setPending_units : (s.setPending x).units = s.units := rfl
@[simp] theorem State.setPending_runIn : (s.setPending x).runIn = s.runIn := rfl
@[simp] theorem State.setPending_engine : (s.setPending x).engine = s.engine := rfl
@[simp] theorem State.setPending_leak : (s.setPending x).leak = s.leak := rfl
@[simp] theorem State.setPending_reports : (s.setPending x).reports = s.reports := rfl
@[simp] theorem State.setPending_notices : (s.setPending x).notices = s.notices := rfl
@[simp] theorem State.setPending_arbiter : (s.setPending x).arbiter = s.arbiter := rfl
@[simp] theorem State.setPending_requests : (s.setPending x).requests = s.requests := rfl
@[simp] theorem State.setPending_loader : (s.setPending x).loader = s.loader := rfl
@[simp] theorem State.setPending_freeCount : (s.setPending x).freeCount = s.freeCount := rfl
@[simp] theorem State.setPending_pending : (s.setPending x).pending = x := rfl
end

end Sys2Proof.Machine
end

