-- ==== Sys2Proof/Laws/Jobs.lean ====
section
/-! SUPPORT. What the jobs can do to the rest of the part: for the relation `JobStep` of Safety.lean, one lemma per
operation of the channels, the Angle Unit, the sequencers, the Order Engine and the Stream Intake that says the operation
stays inside it. -/

namespace Sys2Proof.Machine

namespace JobStep

theorem refl (s : State) : JobStep s s := by constructor <;> rfl

theorem trans {s t u : State} (h : JobStep s t) (k : JobStep t u) : JobStep s u :=
  ⟨k.pins.trans h.pins, k.timeBase.trans h.timeBase, k.ring.trans h.ring, k.stand.trans h.stand,
    k.reports.trans h.reports, k.loader.trans h.loader, k.requests.trans h.requests, k.pending.trans h.pending,
    k.streams.trans h.streams, k.channels.trans h.channels, k.units.trans h.units, k.tables.trans h.tables,
    k.records.trans h.records, k.settings.trans h.settings, k.replies.trans h.replies, k.sent.trans h.sent⟩

end JobStep

/-- A conditional operation stays inside the relation if both its branches do. -/
theorem jobStep_ite {p : Prop} [Decidable p] {s a b : State} (ha : JobStep s a) (hb : JobStep s b) :
    JobStep s (if p then a else b) := by split <;> assumption

/-! ## The updates -/

theorem setAngle_jobStep (s : State) (x : Angle) : JobStep s (s.setAngle x) := by constructor <;> rfl
theorem setRunIn_jobStep (s : State) (x : RunIn) : JobStep s (s.setRunIn x) := by constructor <;> rfl
theorem setEngine_jobStep (s : State) (x : Engine) : JobStep s (s.setEngine x) := by constructor <;> rfl
theorem setLeak_jobStep (s : State) (x : Leak) : JobStep s (s.setLeak x) := by constructor <;> rfl
theorem setFreeCount_jobStep (s : State) (x : Nat) : JobStep s (s.setFreeCount x) := by constructor <;> rfl

theorem raise_jobStep (s : State) (src : Source) (bay : Option Bay) (serial : Option Serial) (d : Detail) :
    JobStep s (raise s src bay serial d) := by
  constructor <;> simp [raise, Notices.setRecord]

theorem updateUnit_jobStep (s : State) (p : Position) (f : UnitRecord → UnitRecord)
    (h : ∀ u, (f u).identity = u.identity) : JobStep s (updateUnit s p f) := by
  constructor <;> first | rfl | skip
  simp only [updateUnit, State.setUnits_units, List.map_map]
  apply List.map_congr_left
  intro u _
  simp only [Function.comp]
  split
  · exact h u
  · rfl

theorem updateChannel_jobStep (s : State) (c : Nat) (f : Channel → Channel)
    (h : ∀ ch, ((f ch).config, (f ch).acquire, (f ch).diagnose) = (ch.config, ch.acquire, ch.diagnose)) :
    JobStep s (updateChannel s c f) := by
  constructor <;> first | rfl | skip
  exact modifyAt_map f (fun ch : Channel => (ch.config, ch.acquire, ch.diagnose)) h _ _

theorem updateSlot_jobStep (s : State) (n : Nat) (f : OrderSlot → OrderSlot) : JobStep s (updateSlot s n f) := by
  unfold updateSlot
  split
  · exact .refl s
  · rename_i t h
    constructor <;> simp [h, Tables.kept]

theorem carryOutSwap_jobStep (s : State) (n : Nat) (bay : Option Bay) (serial : Option Serial) :
    JobStep s (carryOutSwap s n bay serial) :=
  (updateSlot_jobStep s n _).trans (raise_jobStep _ _ _ _ _)

/-! ## The Order Engine -/

theorem openWindow_jobStep (s : State) (g : Nat) (slot : Option Nat) : JobStep s (openWindow s g slot).2 := by
  unfold openWindow
  repeat' split
  all_goals first | exact .refl s | exact setEngine_jobStep s _

theorem withWindow_jobStep (s : State) (f : Window → OrderSet → Nat → Window) : JobStep s (withWindow s f) := by
  unfold withWindow
  repeat' split
  all_goals first | exact .refl s | exact setEngine_jobStep s _

theorem engineBoundary_jobStep (s : State) (e : Boundary) : JobStep s (engineBoundary s e) := withWindow_jobStep s _

theorem engineRecord_jobStep (s : State) (a : AngleRecord) (v : List Published) : JobStep s (engineRecord s a v) :=
  withWindow_jobStep s _

theorem engineBreak_jobStep (s : State) : JobStep s (engineBreak s) := by
  unfold engineBreak
  split
  · exact .refl s
  · exact setEngine_jobStep s _

theorem engineWithdraw_jobStep (s : State) (c : Nat) : JobStep s (engineWithdraw s c) := by
  unfold engineWithdraw
  split
  · exact .refl s
  · exact setEngine_jobStep s _

@[simp] theorem offerFinding_identity (u : UnitRecord) (f : Finding) : (offerFinding u f).identity = u.identity := by
  unfold offerFinding
  repeat' split
  all_goals rfl

theorem offerFindings_identity (fs : List Finding) (u : UnitRecord) :
    (fs.foldl offerFinding u).identity = u.identity := by
  induction fs generalizing u with
  | nil => rfl
  | cons f fs ih => simp [ih]

theorem closeWindow_jobStep (s : State) : JobStep s (closeWindow s).2 := by
  unfold closeWindow
  split
  · exact .refl s
  · split
    · exact setEngine_jobStep s _
    · dsimp only
      repeat' split
      all_goals first
        | exact ((setEngine_jobStep s _).trans
            (updateUnit_jobStep _ .bayA _ (offerFindings_identity _))).trans (carryOutSwap_jobStep _ _ _ _)
        | exact (setEngine_jobStep s _).trans (updateUnit_jobStep _ .bayA _ (offerFindings_identity _))

theorem settleNoise_jobStep (s : State) (p : List Segment) (b : Bool) : JobStep s (settleNoise s p b) :=
  (updateUnit_jobStep s .bayA _ (by intro u; rfl)).trans (setEngine_jobStep _ _)

/-! ## The Run-in Sequencer -/

theorem setSlots_jobStep (s : State) (d : Option (Nat × DriveCommand)) (v : Option (Nat × ValveCommand)) :
    JobStep s (s.setArbiter { s.arbiter with driveSlot := d, valveSlot := v }) := by constructor <;> rfl

theorem placeDrive_jobStep (s : State) (c : DriveCommand) : JobStep s (placeDrive s c) := by
  unfold placeDrive
  split
  · exact .refl s
  · exact setSlots_jobStep s _ _

theorem issueDriveNow_jobStep (s : State) (b : Bool) (v : Int) (r : Nat) (t : Int) :
    JobStep s (issueDriveNow s b v r t) := (setRunIn_jobStep s _).trans (placeDrive_jobStep _ _)

theorem issueDrive_jobStep (s : State) (b : Bool) (v : Int) (r : Nat) (t : Int) : JobStep s (issueDrive s b v r t) :=
  jobStep_ite (.refl s) (issueDriveNow_jobStep s b v r t)

theorem repeatDrive_jobStep (s : State) : JobStep s (repeatDrive s) := by
  unfold repeatDrive
  repeat' split
  all_goals first | exact .refl s | exact (setRunIn_jobStep s _).trans (placeDrive_jobStep _ _)

theorem updateRun_jobStep (s : State) (f : SpinRun → SpinRun) : JobStep s (updateRun s f) := by
  unfold updateRun
  split
  · exact .refl s
  · exact setRunIn_jobStep s _

theorem enterStopping_jobStep (s : State) : JobStep s (enterStopping s) := by
  unfold enterStopping
  split
  · exact .refl s
  · exact ((updateUnit_jobStep s .bayA _ (by intro u; rfl)).trans (issueDrive_jobStep _ _ _ _ _)).trans
      (updateRun_jobStep _ _)

theorem takeOutcome_jobStep (s : State) (o : RuninOutcome) : JobStep s (takeOutcome s o) := by
  unfold takeOutcome
  split
  · exact .refl s
  · dsimp only
    split
    · split
      · exact ((setRunIn_jobStep s _).trans (closeWindow_jobStep _)).trans (enterStopping_jobStep _)
      · exact (setRunIn_jobStep s _).trans (enterStopping_jobStep _)
    · exact .refl s

theorem holdEntry_jobStep (s : State) : JobStep s (holdEntry s) := by
  unfold holdEntry
  split
  · exact .refl s
  · split
    · exact (openWindow_jobStep s _ _).trans (updateRun_jobStep _ _)
    · exact takeOutcome_jobStep s _

theorem enterSettle_jobStep (s : State) : JobStep s (enterSettle s) := by
  unfold enterSettle
  split
  · exact .refl s
  · dsimp only
    split
    · split
      · exact (updateRun_jobStep s _).trans (holdEntry_jobStep _)
      · exact updateRun_jobStep s _
    · exact updateRun_jobStep s _

theorem beginSegment_jobStep (s : State) (i : Nat) : JobStep s (beginSegment s i) := by
  unfold beginSegment
  split
  · exact .refl s
  · split
    · exact .refl s
    · dsimp only
      split
      · exact ((issueDrive_jobStep s _ _ _ _).trans (updateRun_jobStep _ _)).trans (enterSettle_jobStep _)
      · exact (issueDrive_jobStep s _ _ _ _).trans (updateRun_jobStep _ _)

theorem endHold_jobStep (s : State) : JobStep s (endHold s) := by
  unfold endHold
  split
  · exact .refl s
  · have h := (closeWindow_jobStep s).trans (updateUnit_jobStep _ .bayA
      (fun u => { u with summaries := u.summaries ++ [summaryOf ‹SpinRun› (closeWindow s).1] }) (by intro u; rfl))
    dsimp only
    split
    · exact h.trans (beginSegment_jobStep _ _)
    · exact h.trans (takeOutcome_jobStep _ _)

theorem takeTorque_jobStep (s : State) (r : SpinRun) (x : Int) : JobStep s (takeTorque s r x) := by
  have h : JobStep s (updateUnit s .bayA (fun u => takeMaxTorque u x)) := updateUnit_jobStep s .bayA _ (by intro u; rfl)
  unfold takeTorque
  dsimp only
  repeat' split
  all_goals first
    | exact h
    | exact h.trans (takeOutcome_jobStep _ _)
    | exact h.trans (updateRun_jobStep _ _)
    | exact (h.trans (updateRun_jobStep _ _)).trans (takeOutcome_jobStep _ _)

theorem takeOil_jobStep (s : State) (r : SpinRun) (x : Int) : JobStep s (takeOil s r x) := by
  have h : JobStep s (updateUnit s .bayA (fun u => { u with maxOil := maxOpt u.maxOil x })) :=
    updateUnit_jobStep s .bayA _ (by intro u; rfl)
  unfold takeOil
  dsimp only
  repeat' split
  all_goals first
    | exact h
    | exact h.trans (takeOutcome_jobStep _ _)
    | exact h.trans (updateRun_jobStep _ _)
    | exact (h.trans (updateRun_jobStep _ _)).trans (takeOutcome_jobStep _ _)

theorem runInValue_jobStep (s : State) (p : Published) : JobStep s (runInValue s p) := by
  unfold runInValue
  repeat' split
  all_goals first | exact .refl s | exact takeTorque_jobStep s _ _ | exact takeOil_jobStep s _ _

theorem runInSpeed_jobStep (s : State) (v : Option Int) : JobStep s (runInSpeed s v) := by
  unfold runInSpeed
  repeat' split
  all_goals first | exact .refl s | exact updateRun_jobStep s _

theorem runInLostLock_jobStep (s : State) : JobStep s (runInLostLock s) := updateRun_jobStep s _

theorem runInStale_jobStep (s : State) (i : Nat) (cfg : StreamConfig) : JobStep s (runInStale s i cfg) := by
  unfold runInStale
  repeat' split
  all_goals first | exact .refl s | exact takeOutcome_jobStep s _

theorem runInChannelLost_jobStep (s : State) (c : Nat) : JobStep s (runInChannelLost s c) :=
  jobStep_ite (takeOutcome_jobStep s _) (.refl s)

theorem writeRunin_jobStep (s : State) (r : SpinRun) (b : Bool) : JobStep s (writeRunin s r b) := by
  unfold writeRunin
  split
  · exact .refl s
  · exact (updateUnit_jobStep s .bayA _ (by intro u; rfl)).trans (settleNoise_jobStep _ _ _)

theorem raiseRunin_jobStep (s : State) (src : Source) (r : SpinRun) : JobStep s (raiseRunin s src r) := by
  unfold raiseRunin
  split
  · exact .refl s
  · exact raise_jobStep s _ _ _ _

theorem endStopping_jobStep (s : State) (r : SpinRun) : JobStep s (endStopping s r) := by
  unfold endStopping
  exact (((jobStep_ite (.refl s) (writeRunin_jobStep s r false)).trans (raiseRunin_jobStep _ _ _)).trans
    (issueDrive_jobStep _ _ _ _ _)).trans (setRunIn_jobStep _ _)

theorem runInStandstill_jobStep (s : State) : JobStep s (runInStandstill s) := by
  unfold runInStandstill
  repeat' split
  all_goals first | exact .refl s | exact endStopping_jobStep s _

theorem stopTimedOut_jobStep (s : State) (r : SpinRun) : JobStep s (stopTimedOut s r) := by
  unfold stopTimedOut
  exact (((jobStep_ite (.refl s) (writeRunin_jobStep s r true)).trans (issueDrive_jobStep _ _ _ _ _)).trans
    (raiseRunin_jobStep _ _ _)).trans (updateRun_jobStep _ _)

theorem writeGuardTime_jobStep (s : State) : JobStep s (writeGuardTime s) := by
  unfold writeGuardTime
  split
  · exact .refl s
  · exact updateUnit_jobStep s .bayA _ (by intro u; rfl)

theorem guardEdge_jobStep (s : State) (b : Bool) : JobStep s (guardEdge s b) := by
  have h := (setRunIn_jobStep s { s.runIn with guardAsserted := b }).trans
    (raise_jobStep _ .guard (some .a) ((s.setRunIn { s.runIn with guardAsserted := b }).serialAt .bayA)
      (.edge b s.timeBase))
  unfold guardEdge
  dsimp only
  split
  · exact (h.trans (writeGuardTime_jobStep _)).trans (takeOutcome_jobStep _ _)
  · exact h

/-! ## The Leak Sequencer -/

theorem placeValve_jobStep (s : State) (c : ValveCommand) : JobStep s (placeValve s c) := by
  unfold placeValve
  split
  · exact .refl s
  · exact setSlots_jobStep s _ _

theorem issueValve_jobStep (s : State) (k : ValveKind) : JobStep s (issueValve s k) :=
  jobStep_ite (.refl s) ((setLeak_jobStep s _).trans (placeValve_jobStep _ _))

theorem repeatValve_jobStep (s : State) : JobStep s (repeatValve s) := by
  unfold repeatValve
  repeat' split
  all_goals first | exact .refl s | exact (setLeak_jobStep s _).trans (placeValve_jobStep _ _)

theorem updateTest_jobStep (s : State) (f : LeakRun → LeakRun) : JobStep s (updateTest s f) := by
  unfold updateTest
  split
  · exact .refl s
  · exact setLeak_jobStep s _

theorem takeLeakOutcome_jobStep (s : State) (o : LeakOutcome) (r : Option LeakResult) :
    JobStep s (takeLeakOutcome s o r) := by
  unfold takeLeakOutcome
  repeat' split
  all_goals first
    | exact .refl s
    | exact ((updateTest_jobStep s _).trans (updateTest_jobStep _ _)).trans (issueValve_jobStep _ _)

theorem enterMeasure_jobStep (s : State) : JobStep s (enterMeasure s) := by
  unfold enterMeasure
  split
  · exact .refl s
  · exact setLeak_jobStep s _

theorem enterLeakSettle_jobStep (s : State) : JobStep s (enterLeakSettle s) := by
  unfold enterLeakSettle
  split
  · exact .refl s
  · have h := (updateTest_jobStep s (fun r => { r with phase := .settle, phaseStart := s.timeBase })).trans
      (issueValve_jobStep _ .isolate)
    exact jobStep_ite (h.trans (enterMeasure_jobStep _)) h

theorem endMeasure_jobStep (s : State) : JobStep s (endMeasure s) := by
  unfold endMeasure
  split
  · dsimp only
    split <;> exact takeLeakOutcome_jobStep s _ _
  · exact .refl s

theorem writeLeak_jobStep (s : State) (r : LeakRun) : JobStep s (writeLeak s r) := by
  unfold writeLeak
  split
  · exact .refl s
  · exact updateUnit_jobStep s .bayB _ (by intro u; rfl)

theorem raiseLeak_jobStep (s : State) (src : Source) (r : LeakRun) : JobStep s (raiseLeak s src r) := by
  unfold raiseLeak
  split
  · exact .refl s
  · exact raise_jobStep s _ _ _ _

theorem endVent_jobStep (s : State) (r : LeakRun) : JobStep s (endVent s r) := by
  unfold endVent
  exact (((jobStep_ite (.refl s) (writeLeak_jobStep s r)).trans (raiseLeak_jobStep _ _ _)).trans
    (issueValve_jobStep _ _)).trans (setLeak_jobStep _ _)

theorem takePressure_jobStep (s : State) (r : LeakRun) (x : Int) : JobStep s (takePressure s r x) := by
  unfold takePressure
  dsimp only
  repeat' split
  all_goals first
    | exact .refl s
    | exact takeLeakOutcome_jobStep s _ _
    | exact enterLeakSettle_jobStep s
    | exact setLeak_jobStep s _
    | exact endVent_jobStep s r

theorem leakValue_jobStep (s : State) (p : Published) : JobStep s (leakValue s p) := by
  unfold leakValue
  repeat' split
  all_goals first | exact .refl s | exact takePressure_jobStep s _ _

theorem leakStale_jobStep (s : State) (cfg : StreamConfig) : JobStep s (leakStale s cfg) := by
  unfold leakStale
  repeat' split
  all_goals first | exact .refl s | exact takeLeakOutcome_jobStep s _ _

theorem leakChannelLost_jobStep (s : State) (c : Nat) : JobStep s (leakChannelLost s c) :=
  jobStep_ite (takeLeakOutcome_jobStep s _ _) (.refl s)

theorem ventTimedOut_jobStep (s : State) (r : LeakRun) : JobStep s (ventTimedOut s r) := by
  unfold ventTimedOut
  exact (((jobStep_ite (.refl s) (writeLeak_jobStep s r)).trans (issueValve_jobStep _ _)).trans
    (raiseLeak_jobStep _ _ _)).trans (updateTest_jobStep _ _)

/-! ## Channels -/

theorem channelLost_jobStep (s : State) (c : Nat) : JobStep s (channelLost s c) :=
  ((engineWithdraw_jobStep s c).trans (runInChannelLost_jobStep _ c)).trans (leakChannelLost_jobStep _ c)

theorem channelFaulted_jobStep (s : State) (c : Nat) : JobStep s (channelFaulted s c) :=
  (raise_jobStep s _ _ _ _).trans (channelLost_jobStep _ c)

theorem publish_jobStep (s : State) (p : Published) : JobStep s (publish s p) :=
  (runInValue_jobStep s p).trans (leakValue_jobStep _ p)

/-- A channel's taking of a value keeps its configuration and its flags. -/
theorem Channel.take_kept (ch : Channel) (raw : Int) (filled : Bool) :
    ((ch.take raw filled).1.config, (ch.take raw filled).1.acquire, (ch.take raw filled).1.diagnose) =
      (ch.config, ch.acquire, ch.diagnose) := by
  unfold Channel.take
  dsimp only
  repeat' split
  all_goals first
    | rfl
    | (simp only [Channel.tested]; (repeat' split) <;> rfl)

theorem takeValue_jobStep (s : State) (c : Nat) (raw : Int) (filled : Bool) :
    JobStep s (updateChannel s c (fun ch => (ch.take raw filled).1)) :=
  updateChannel_jobStep s c _ (fun ch => ch.take_kept raw filled)

theorem channelValue_jobStep (s : State) (c : Nat) (raw : Int) (filled : Bool) :
    JobStep s (channelValue s c raw filled).1 := by
  have h := takeValue_jobStep s c raw filled
  unfold channelValue
  dsimp only
  repeat' split
  all_goals first
    | exact .refl s
    | exact h
    | exact h.trans (channelFaulted_jobStep _ c)
    | exact h.trans (publish_jobStep _ _)

theorem deliverValues_jobStep (s : State) (filled : Bool) (bs : List (Option Nat)) (raws : List Int) :
    JobStep s (deliverValues s filled bs raws).1 := by
  induction bs generalizing s raws with
  | nil => exact .refl s
  | cons b bs ih =>
    cases raws with
    | nil => cases b <;> exact .refl s
    | cons r raws =>
      cases b with
      | none => exact ih s raws
      | some c => exact (channelValue_jobStep s c r filled).trans (ih _ raws)

theorem Channel.gone_kept (ch : Channel) :
    (ch.gone.config, ch.gone.acquire, ch.gone.diagnose) = (ch.config, ch.acquire, ch.diagnose) := by
  unfold Channel.gone
  repeat' split
  all_goals rfl

theorem channelsGone_jobStep (s : State) (bs : List (Option Nat)) : JobStep s (channelsGone s bs) := by
  unfold channelsGone
  induction bs generalizing s with
  | nil => exact .refl s
  | cons b bs ih =>
    cases b with
    | none => exact ih s
    | some c => exact (updateChannel_jobStep s c _ Channel.gone_kept).trans (ih _)

/-! ## The Angle Unit -/

theorem finishSet_jobStep (s : State) (st : Stand) (fs : Nat) (t : Track) (turn : Turn) (pos : Pos) (b : Bool)
    (v : List Published) : JobStep s (finishSet s st fs t turn pos b v) := by
  unfold finishSet
  dsimp only
  repeat' split
  all_goals first
    | exact (((setAngle_jobStep s _).trans (engineBoundary_jobStep _ _)).trans (runInSpeed_jobStep _ _)).trans
        (engineRecord_jobStep _ _ _)
    | exact (((setAngle_jobStep s _).trans (engineBreak_jobStep _)).trans (runInSpeed_jobStep _ _)).trans
        (engineRecord_jobStep _ _ _)
    | exact ((setAngle_jobStep s _).trans (runInSpeed_jobStep _ _)).trans (engineRecord_jobStep _ _ _)

theorem angleFaults_jobStep (s : State) (st : Stand) (t : Track) : JobStep s (angleFaults s st t) := by
  unfold angleFaults
  exact ((((engineBreak_jobStep s).trans (setAngle_jobStep _ _)).trans (raise_jobStep _ _ _ _ _)).trans
    (runInLostLock_jobStep _)).trans (takeOutcome_jobStep _ _)

theorem followSet_jobStep (s : State) (st : Stand) (fs : Nat) (pos : Pos) (c : Option Pos) (b : Bool)
    (v : List Published) : JobStep s (followSet s st fs pos c b v) := by
  unfold followSet
  dsimp only
  repeat' split
  all_goals first
    | exact .refl s
    | exact finishSet_jobStep s _ _ _ _ _ _ _
    | exact (setAngle_jobStep s _).trans (angleFaults_jobStep _ _ _)
    | exact (setAngle_jobStep s _).trans (finishSet_jobStep _ _ _ _ _ _ _ _)

theorem angleSet_jobStep (s : State) (pos : Pos) (c : Option Pos) (b : Bool) (v : List Published) :
    JobStep s (angleSet s pos c b v) := by
  unfold angleSet
  split
  · exact ((setAngle_jobStep s _).trans (followSet_jobStep _ _ _ _ _ _ _)).trans (runInStandstill_jobStep _)
  · exact .refl s

theorem loseReference_jobStep (s : State) : JobStep s (loseReference s) := by
  unfold loseReference
  split
  · exact (setAngle_jobStep s _).trans (runInLostLock_jobStep _)
  · exact .refl s

theorem clearHistory_jobStep (s : State) : JobStep s (clearHistory s) := setAngle_jobStep s _

/-! ## The Stream Intake -/

/-- From `s` to `t` only what the jobs and the Stream Intake may write has changed: what `JobStep` allows, and the
runtimes of streams. -/
structure IntakeStep (s t : State) : Prop where
  pins : t.pins = s.pins
  timeBase : t.timeBase = s.timeBase
  ring : t.ring = s.ring
  stand : t.stand = s.stand
  reports : t.reports = s.reports
  loader : t.loader = s.loader
  requests : t.requests = s.requests
  pending : t.pending = s.pending
  streams : t.streams.map StreamEntry.config = s.streams.map StreamEntry.config
  channels : t.channels.map (fun c => (c.config, c.acquire, c.diagnose)) =
    s.channels.map (fun c => (c.config, c.acquire, c.diagnose))
  units : t.units.map UnitRecord.identity = s.units.map UnitRecord.identity
  tables : t.tables.map Tables.kept = s.tables.map Tables.kept
  records : t.notices.records.length = s.notices.records.length
  settings : t.notices.settings = s.notices.settings
  replies : t.arbiter.replies = s.arbiter.replies
  sent : t.arbiter.sent = s.arbiter.sent

/-- What the jobs may do, the Stream Intake may. -/
theorem JobStep.intake {s t : State} (h : JobStep s t) : IntakeStep s t :=
  ⟨h.pins, h.timeBase, h.ring, h.stand, h.reports, h.loader, h.requests, h.pending,
    congrArg (List.map StreamEntry.config) h.streams, h.channels, h.units, h.tables, h.records, h.settings, h.replies,
    h.sent⟩

theorem IntakeStep.trans {s t u : State} (h : IntakeStep s t) (k : IntakeStep t u) : IntakeStep s u :=
  ⟨k.pins.trans h.pins, k.timeBase.trans h.timeBase, k.ring.trans h.ring, k.stand.trans h.stand,
    k.reports.trans h.reports, k.loader.trans h.loader, k.requests.trans h.requests, k.pending.trans h.pending,
    k.streams.trans h.streams, k.channels.trans h.channels, k.units.trans h.units, k.tables.trans h.tables,
    k.records.trans h.records, k.settings.trans h.settings, k.replies.trans h.replies, k.sent.trans h.sent⟩

theorem updateStreamRun_intakeStep (s : State) (i : Nat) (f : StreamRun → StreamRun) :
    IntakeStep s (updateStreamRun s i f) := by
  constructor <;> first | rfl | skip
  exact modifyAt_map (fun e => { e with run := f e.run }) StreamEntry.config (fun _ => rfl) _ _

theorem deliver_intakeStep (s : State) (i : Nat) (cfg : StreamConfig) (set : SampleSet) (b : Bool) :
    IntakeStep s (deliver s i cfg set b) := by
  have h := deliverValues_jobStep s b cfg.binding set.values
  unfold deliver
  dsimp only
  repeat' split
  all_goals first
    | exact (h.trans (angleSet_jobStep _ _ _ _ _)).intake.trans (updateStreamRun_intakeStep _ _ _)
    | exact h.intake.trans (updateStreamRun_intakeStep _ _ _)

theorem gapEvent_jobStep (s : State) (i : Nat) : JobStep s (gapEvent s i) :=
  jobStep_ite ((loseReference_jobStep s).trans (engineBreak_jobStep _)) (.refl s)

theorem acceptSet_intakeStep (s : State) (i : Nat) (cfg : StreamConfig) (q : Nat) (set : SampleSet) :
    IntakeStep s (acceptSet s i cfg q set) :=
  (updateStreamRun_intakeStep s i _).trans (deliver_intakeStep _ _ _ _ _)

theorem fillBefore_intakeStep (s : State) (i : Nat) (cfg : StreamConfig) (run : StreamRun) (set : SampleSet) :
    IntakeStep s (fillBefore s i cfg run set) := by
  unfold fillBefore
  split
  · exact (JobStep.refl s).intake
  · exact (updateStreamRun_intakeStep s i _).trans (deliver_intakeStep _ _ _ _ _)

theorem sequenceCheck_intakeStep (s : State) (i : Nat) (cfg : StreamConfig) (run : StreamRun) (q : Nat)
    (set : SampleSet) : IntakeStep s (sequenceCheck s i cfg run q set) := by
  unfold sequenceCheck
  repeat' split
  all_goals first
    | exact acceptSet_intakeStep s _ _ _ _
    | exact (fillBefore_intakeStep s _ _ _ _).trans (acceptSet_intakeStep _ _ _ _ _)
    | exact updateStreamRun_intakeStep s _ _
    | exact ((updateStreamRun_intakeStep s i _).trans (gapEvent_jobStep _ _).intake).trans
        (acceptSet_intakeStep _ _ _ _ _)

theorem intake_intakeStep (s : State) (i : Nat) (cfg : StreamConfig) (payload : List Byte) :
    IntakeStep s (intake s i cfg payload) := by
  unfold intake
  repeat' split
  all_goals first
    | exact (JobStep.refl s).intake
    | exact updateStreamRun_intakeStep s _ _
    | exact sequenceCheck_intakeStep s _ _ _ _ _
    | exact acceptSet_intakeStep s _ _ _ _

theorem sourceGone_jobStep (s : State) (i : Nat) (cfg : StreamConfig) : JobStep s (sourceGone s i cfg) := by
  unfold sourceGone
  dsimp only
  split
  · exact ((setFreeCount_jobStep s _).trans (engineBreak_jobStep _)).trans (runInStale_jobStep _ _ _)
  · exact ((setFreeCount_jobStep s _).trans (runInStale_jobStep _ _ _)).trans (engineBreak_jobStep _)

theorem streamGone_jobStep (s : State) (i : Nat) (cfg : StreamConfig) : JobStep s (streamGone s i cfg) := by
  have h := channelsGone_jobStep s cfg.binding
  unfold streamGone
  dsimp only
  repeat' split
  all_goals first
    | exact ((h.trans ((loseReference_jobStep _).trans (clearHistory_jobStep _))).trans
        (sourceGone_jobStep _ _ _)).trans (leakStale_jobStep _ _)
    | exact ((h.trans ((loseReference_jobStep _).trans (clearHistory_jobStep _))).trans
        (runInStale_jobStep _ _ _)).trans (leakStale_jobStep _ _)
    | exact (h.trans (sourceGone_jobStep _ _ _)).trans (leakStale_jobStep _ _)
    | exact (h.trans (runInStale_jobStep _ _ _)).trans (leakStale_jobStep _ _)

theorem staleExpires_intakeStep (s : State) (i : Nat) : IntakeStep s (staleExpires s i) := by
  unfold staleExpires
  split
  · exact (JobStep.refl s).intake
  · exact (updateStreamRun_intakeStep s i _).trans
      ((streamGone_jobStep _ _ _).trans (raise_jobStep _ _ _ _ _)).intake

end Sys2Proof.Machine
end

