-- ==== Sys2Proof/Laws/Outbound.lean ====
section
/-! SUPPORT. What the outbound side can do: one lemma that says everything `pump` may change, one each for the ways a
request is answered or a frame is reported, and the inversion of the two shared command shapes, `executeKind` and
`whenDue`. -/

namespace Sys2Proof.Machine

/-! ## The idle line -/

/-- From `s` to `t` only what the transmit port and the places it takes a frame from may write has changed: the line,
the forward buffer, the forwarded count, the two command slots and the notice records. -/
structure LineStep (s t : State) : Prop where
  pins : t.pins = s.pins
  timeBase : t.timeBase = s.timeBase
  ring : { t.ring with line := s.ring.line, buffer := s.ring.buffer, forwarded := s.ring.forwarded } = s.ring
  buffer : t.ring.buffer.length ≤ s.ring.buffer.length
  streams : t.streams = s.streams
  channels : t.channels = s.channels
  angle : t.angle = s.angle
  stand : t.stand = s.stand
  tables : t.tables = s.tables
  units : t.units = s.units
  runIn : t.runIn = s.runIn
  engine : t.engine = s.engine
  leak : t.leak = s.leak
  reports : t.reports = s.reports
  records : t.notices.records.length = s.notices.records.length
  settings : t.notices.settings = s.notices.settings
  replies : t.arbiter.replies = s.arbiter.replies
  sent : t.arbiter.sent = s.arbiter.sent
  requests : t.requests = s.requests
  loader : t.loader = s.loader
  freeCount : t.freeCount = s.freeCount
  pending : t.pending = s.pending

theorem LineStep.refl (s : State) : LineStep s s := by constructor <;> rfl

theorem Notices.take_records_length (u : Notices) (src : Source) : (u.take src).records.length = u.records.length := by
  simp [Notices.take, Notices.setRecord]

theorem insertOffer_lineStep (s : State) (o : Offer) : LineStep s (insertOffer s o) := by
  cases o <;> simp only [insertOffer, putOnLine] <;> (try split) <;> constructor <;>
    first | rfl | exact Notices.take_records_length _ _

theorem pump_lineStep (s : State) : LineStep s (pump s) := by
  unfold pump
  split
  · exact .refl s
  · split
    · rename_i h
      constructor <;> first | rfl | simp [h]
    · split
      · exact .refl s
      · split
        · exact .refl s
        · exact insertOffer_lineStep s _

/-! ## The shared shapes of the commands -/

/-- What `executeKind` can do: nothing, or the oldest request is one that `pick` names and is executed. -/
theorem executeKind_cases (s : State) (pick : Req → Option (State → State × Answer)) :
    executeKind s pick = s ∨
      ∃ q r effect, s.oldest = some q ∧ q.form = .ok r ∧ pick r = some effect ∧
        executeKind s pick = executeOne s q effect := by
  unfold executeKind
  repeat' split
  all_goals first | exact .inl rfl | exact .inr ⟨_, _, _, ‹_›, ‹_›, ‹_›, rfl⟩

/-- A request of the kind is executed. -/
theorem executeKind_of {s : State} {q : Request} {r : Req} {pick : Req → Option (State → State × Answer)}
    {effect : State → State × Answer} (h : s.oldest = some q) (hf : q.form = .ok r) (hp : pick r = some effect) :
    executeKind s pick = executeOne s q effect := by
  simp [executeKind, h, hf, hp]

/-- What `whenDue` can do: nothing, or the event's effect and then the idle line. -/
theorem whenDue_cases (s : State) (due : Bool) (effect : State → State) :
    whenDue s due effect = s ∨
      (s.pins.resetHeld = false ∧ due = true ∧ whenDue s due effect = pump (effect s)) := by
  unfold whenDue
  cases s.pins.resetHeld <;> cases due <;> simp

/-- An event that is due happens. -/
theorem whenDue_of {s : State} {due : Bool} {effect : State → State} (h : s.pins.resetHeld = false) (hd : due = true) :
    whenDue s due effect = pump (effect s) := by
  simp [whenDue, h, hd]

/-- The Request Unit begins a request only when R166's conditions hold. -/
theorem oldest_eq_some {s : State} {q : Request} (h : s.oldest = some q) :
    s.mayExecute = true ∧ s.requests.queue.head? = some q := by
  unfold State.oldest at h
  split at h
  · exact ⟨‹_›, h⟩
  · cases h

theorem mayExecute_iff (s : State) : s.mayExecute = true ↔
    s.pins.resetHeld = false ∧ s.arbiter.replies.length < 4 ∧ s.requests.resetWait = none ∧
      s.loader.loading = false := by
  simp [State.mayExecute, and_assoc]

end Sys2Proof.Machine
end

