-- ==== Sys2Proof/Laws/Answers.lean ====
section
/-! SUPPORT. How a request row comes to answer: the inversion of `executeKind` put in the terms of Sys2Proof/Safety.lean,
and the cases of a list of refusal reasons. -/

namespace Sys2Proof.Machine

/-- A request row answers what the request's effect answers on the state without the request. -/
theorem answers_of_effect {s : State} {q : Request} {r : Req} {c : Instr}
    {pick : Req → Option (State → State × Answer)} {effect : State → State × Answer} {t : State} {a : Answer}
    (h : s.takes q r) (hc : exec c s = .next (executeKind s pick)) (hp : pick r = some effect)
    (he : effect (dequeue s) = (t, a)) : answers c s q a t := by
  unfold answers
  rw [hc, executeKind_of h.1 h.2 hp]
  simp [executeOne, he]

/-- A list of reasons says what the effect says: refused with the first that applies, or accepted with `t`. -/
theorem answersFirst_of_effect {s : State} {q : Request} {r : Req} {c : Instr}
    {pick : Req → Option (State → State × Answer)} {effect : State → State × Answer} {t : State}
    {reasons : List (Bool × Code)} (h : s.takes q r) (hc : exec c s = .next (executeKind s pick))
    (hp : pick r = some effect)
    (hr : firstCode reasons ≠ .ok → effect (dequeue s) = refuse (dequeue s) (firstCode reasons))
    (ha : firstCode reasons = .ok → effect (dequeue s) = accept t) : answersFirst c s q reasons t := by
  refine answers_of_effect h hc hp ?_
  by_cases hok : firstCode reasons = .ok
  · simp [hok, ha hok, accept, refusal]
  · simp [hok, hr hok, refuse, refusal]

@[simp] theorem firstCode_nil : firstCode [] = .ok := rfl

@[simp] theorem firstCode_cons (b : Bool) (c : Code) (rest : List (Bool × Code)) :
    firstCode ((b, c) :: rest) = if b then c else firstCode rest := rfl

/-- A request that may begin leaves no station reset in progress. -/
theorem resetWait_of_oldest {s : State} {q : Request} (h : s.oldest = some q) : s.requests.resetWait = none :=
  ((mayExecute_iff s).1 (oldest_eq_some h).1).2.2.1

/-- An event that is due happens, in the words of Sys2Proof/Safety.lean. -/
theorem happens_of_whenDue {s : State} {c : Instr} {due : Bool} {effect : State → State}
    (hc : exec c s = .next (whenDue s due effect)) (h : s.pins.resetHeld = false) (hd : due = true) :
    happens c s (effect s) := by
  unfold happens
  rw [hc, whenDue_of h hd]

/-- A record written at a source is read back there, and no other source is touched. -/
theorem Notices.record_setRecord (u : Notices) (src : Source) (r : NoticeRecord) (h : u.records.length = 14) :
    (u.setRecord src r).record src = r ∧ ∀ other, other ≠ src → (u.setRecord src r).record other = u.record other := by
  constructor
  · have : src.number < u.records.length := by rw [h]; cases src <;> decide
    simp [Notices.record, Notices.setRecord, List.getD_eq_getElem?_getD, modifyAt_getElem?,
      List.getElem?_eq_getElem this]
  · intro other ho
    have : src.number ≠ other.number := by revert ho; cases src <;> cases other <;> decide
    simp [Notices.record, Notices.setRecord, List.getD_eq_getElem?_getD, modifyAt_getElem?, this]

end Sys2Proof.Machine
end

