-- ==== Sys2Proof/Laws/Encoding.lean ====
section
/-! SUPPORT. What the readers of Machine/Bytes.lean accept: exactly the bytes that the encoding of R176 gives the fields
they answer. -/

namespace Sys2Proof.Machine

/-- A number in a field of `width` bytes, most significant first. -/
def encNat : Nat → Nat → List Byte
  | 0, _ => []
  | width + 1, n => encNat width (n / 256) ++ enc1 n

theorem encNat_one (n : Nat) : encNat 1 n = enc1 n := rfl

theorem encNat_two (n : Nat) : encNat 2 n = enc2 n := rfl

theorem encNat_four (n : Nat) : encNat 4 n = enc4 n := by
  simp [encNat, enc1, enc2, enc4, Nat.div_div_eq_div_mul]

@[simp] theorem encNat_length (width n : Nat) : (encNat width n).length = width := by
  induction width generalizing n with
  | zero => rfl
  | succ width ih => simp [encNat, enc1, ih]

/-- Fields of these widths, one after another. -/
def encFields : List Nat → List Nat → List Byte
  | w :: ws, n :: ns => encNat w n ++ encFields ws ns
  | _, _ => []

/-- As many numbers as widths, each small enough for its width. -/
def Fits : List Nat → List Nat → Prop
  | [], [] => True
  | w :: ws, n :: ns => n < 256 ^ w ∧ Fits ws ns
  | _, _ => False

theorem decNat_concat (bytes : List Byte) (b : Byte) : decNat (bytes ++ [b]) = decNat bytes * 256 + b.toNat := by
  simp [decNat]

theorem decNat_encNat (width n : Nat) : decNat (encNat width n) = n % 256 ^ width := by
  induction width generalizing n with
  | zero => simp [encNat, decNat, Nat.mod_one]
  | succ width ih =>
    have h : n % 256 ^ (width + 1) = n % 256 + 256 * (n / 256 % 256 ^ width) := by
      rw [Nat.pow_succ, Nat.mul_comm (256 ^ width), Nat.mod_mul]
    rw [h, encNat, enc1, decNat_concat, ih, byteOf, BitVec.toNat_ofNat]
    omega

theorem encNat_decNat (bytes : List Byte) : encNat bytes.length (decNat bytes) = bytes := by
  induction bytes using List.reverseRecOn with
  | nil => rfl
  | append_singleton bytes b ih =>
    have hb := b.isLt
    simp only [List.length_append, List.length_singleton, encNat, decNat_concat, enc1, byteOf]
    rw [show (decNat bytes * 256 + b.toNat) / 256 = decNat bytes by omega, ih]
    congr 2
    apply BitVec.eq_of_toNat_eq
    simp
    omega

theorem decNat_lt (bytes : List Byte) : decNat bytes < 256 ^ bytes.length := by
  rw [← encNat_decNat bytes, decNat_encNat, encNat_length]
  exact Nat.mod_lt _ (Nat.pow_pos (by decide))

/-- A number is read exactly where its bytes stand. -/
theorem takeNat_iff {width : Nat} {bytes : List Byte} {n : Nat} {rest : List Byte} :
    takeNat width bytes = some (n, rest) ↔ n < 256 ^ width ∧ bytes = encNat width n ++ rest := by
  unfold takeNat
  split
  · next h =>
    simp only [Option.some.injEq, Prod.mk.injEq]
    constructor
    · rintro ⟨rfl, rfl⟩
      have hl : (bytes.take width).length = width := by simp; omega
      have hlt := decNat_lt (bytes.take width)
      have he := encNat_decNat (bytes.take width)
      rw [hl] at hlt he
      exact ⟨hlt, by rw [he, List.take_append_drop]⟩
    · rintro ⟨hn, rfl⟩
      rw [List.take_left' (by simp), List.drop_left' (by simp), decNat_encNat, Nat.mod_eq_of_lt hn]
      exact ⟨rfl, rfl⟩
  · next h =>
    simp only [reduceCtorEq, false_iff, not_and]
    rintro - rfl
    simp at h

/-- Fields are read exactly where their bytes stand. -/
theorem takeFields_iff {widths : List Nat} {bytes : List Byte} {ns : List Nat} {rest : List Byte} :
    takeFields widths bytes = some (ns, rest) ↔ Fits widths ns ∧ bytes = encFields widths ns ++ rest := by
  induction widths generalizing bytes ns with
  | nil => cases ns <;> simp [takeFields, Fits, encFields, eq_comm]
  | cons w ws ih =>
    simp only [takeFields]
    constructor
    · intro h
      split at h
      · cases h
      · next n r hn =>
        split at h
        · cases h
        · next ms r' hm =>
          cases h
          obtain ⟨hlt, rfl⟩ := takeNat_iff.1 hn
          obtain ⟨hf, rfl⟩ := ih.1 hm
          exact ⟨⟨hlt, hf⟩, by simp [encFields]⟩
    · rintro ⟨hf, rfl⟩
      cases ns with
      | nil => cases hf
      | cons n ns =>
        have h1 : takeNat w (encFields (w :: ws) (n :: ns) ++ rest) = some (n, encFields ws ns ++ rest) :=
          takeNat_iff.2 ⟨hf.1, by simp [encFields]⟩
        have h2 : takeFields ws (encFields ws ns ++ rest) = some (ns, rest) := ih.2 ⟨hf.2, rfl⟩
        simp only [h1, h2]

/-- Fields that take up the whole of the bytes. -/
theorem fieldsOf_iff {widths : List Nat} {bytes : List Byte} {ns : List Nat} :
    fieldsOf widths bytes = some ns ↔ Fits widths ns ∧ bytes = encFields widths ns := by
  have h := @takeFields_iff widths bytes ns []
  rw [List.append_nil] at h
  rw [← h, fieldsOf]
  rcases takeFields widths bytes with _ | ⟨ms, _ | ⟨b, r⟩⟩ <;> simp

/-- Rows are read exactly where their bytes stand. -/
theorem takeRows_iff {widths : List Nat} {count : Nat} {bytes : List Byte} {rows : List (List Nat)}
    {rest : List Byte} :
    takeRows widths count bytes = some (rows, rest) ↔
      rows.length = count ∧ (∀ row ∈ rows, Fits widths row) ∧ bytes = rows.flatMap (encFields widths) ++ rest := by
  induction count generalizing bytes rows with
  | zero => cases rows <;> simp [takeRows, eq_comm]
  | succ count ih =>
    simp only [takeRows]
    constructor
    · intro h
      split at h
      · cases h
      · next row r hr =>
        split at h
        · cases h
        · next more r' hm =>
          cases h
          obtain ⟨hf, rfl⟩ := takeFields_iff.1 hr
          obtain ⟨hl, hall, rfl⟩ := ih.1 hm
          exact ⟨by simp [hl], by simpa using ⟨hf, hall⟩, by simp⟩
    · rintro ⟨hl, hall, rfl⟩
      cases rows with
      | nil => cases hl
      | cons row more =>
        have h1 : takeFields widths ((row :: more).flatMap (encFields widths) ++ rest) =
            some (row, more.flatMap (encFields widths) ++ rest) :=
          takeFields_iff.2 ⟨hall row (by simp), by simp⟩
        have h2 : takeRows widths count (more.flatMap (encFields widths) ++ rest) = some (more, rest) :=
          ih.2 ⟨by simpa using hl, fun r h => hall r (by simp [h]), rfl⟩
        simp only [h1, h2]

/-- A counted list is read exactly where its count byte and its rows stand. -/
theorem takeCounted_iff {widths : List Nat} {bytes : List Byte} {rows : List (List Nat)} {rest : List Byte} :
    takeCounted widths bytes = some (rows, rest) ↔ rows.length < 256 ∧ (∀ row ∈ rows, Fits widths row) ∧
      bytes = enc1 rows.length ++ rows.flatMap (encFields widths) ++ rest := by
  cases bytes with
  | nil => simp [takeCounted, enc1]
  | cons b bytes =>
    have hb := b.isLt
    rw [takeCounted, takeRows_iff]
    simp only [enc1, List.cons_append, List.cons.injEq]
    constructor
    · rintro ⟨hl, hall, rfl⟩
      refine ⟨by omega, hall, ?_, rfl⟩
      apply BitVec.eq_of_toNat_eq
      simp [byteOf, hl]
    · rintro ⟨hl, hall, rfl, rfl⟩
      exact ⟨by simp [byteOf]; omega, hall, rfl⟩

/-- A signed 16-bit number is the one its two bytes spell. -/
theorem signed16_iff {n : Nat} {z : Int} (hn : n < 65536) :
    signed16 n = z ↔ -32768 ≤ z ∧ z ≤ 32767 ∧ n = (z % 65536).toNat := by
  unfold signed16
  split <;> omega

/-- A signed 32-bit number is the one its four bytes spell. -/
theorem signed32_iff {n : Nat} {z : Int} (hn : n < 4294967296) :
    signed32 n = z ↔ -2147483648 ≤ z ∧ z ≤ 2147483647 ∧ n = (z % 4294967296).toNat := by
  unfold signed32
  split <;> omega

theorem encS2_signed16 {n : Nat} (hn : n < 65536) : encS2 (signed16 n) = enc2 n := by
  rw [encS2, ← ((signed16_iff hn).1 rfl).2.2]

theorem encS4_signed32 {n : Nat} (hn : n < 4294967296) : encS4 (signed32 n) = enc4 n := by
  rw [encS4, ← ((signed32_iff hn).1 rfl).2.2]

theorem signed16_bounds {n : Nat} (hn : n < 65536) : -32768 ≤ signed16 n ∧ signed16 n ≤ 32767 :=
  ⟨((signed16_iff hn).1 rfl).1, ((signed16_iff hn).1 rfl).2.1⟩

theorem signed32_bounds {n : Nat} (hn : n < 4294967296) :
    -2147483648 ≤ signed32 n ∧ signed32 n ≤ 2147483647 :=
  ⟨((signed32_iff hn).1 rfl).1, ((signed32_iff hn).1 rfl).2.1⟩

end Sys2Proof.Machine
end

