-- ==== Sys2Proof/Laws/Engine.lean ====
section
/-! SUPPORT. What the Order Engine's shared operations do, said once: one column of a row of pairs, one row of a judged
window, and what closing a window leaves alone. -/

namespace Sys2Proof.Machine

/-- `mapIncluded` changes the column of an INCLUDED channel and leaves any other. -/
theorem mapIncluded_getElem? {α : Type} (f : Nat → α → α) (cs : List (Nat × ChannelEntry)) (i : Nat) (xs : List α)
    (j c : Nat) (e : ChannelEntry) (x : α) (h : cs[j]? = some (c, e)) (hx : xs[j]? = some x) :
    (mapIncluded f i cs xs)[j]? = some (if e = .included then f (i + j) x else x) := by
  induction cs generalizing i xs j with
  | nil => simp at h
  | cons k cs ih =>
    cases xs with
    | nil => simp at hx
    | cons y xs =>
      cases j with
      | zero => simp_all [mapIncluded]
      | succ j =>
        simp only [List.getElem?_cons_succ] at h hx
        simp only [mapIncluded, List.getElem?_cons_succ, ih (i + 1) xs j h hx]
        rw [show i + 1 + j = i + (j + 1) by omega]

/-- `mapChannel` changes the column of the named channel while it is INCLUDED and leaves any other. -/
theorem mapChannel_getElem? {α : Type} (f : α → α) (c : Nat) (cs : List (Nat × ChannelEntry)) (xs : List α)
    (j c' : Nat) (e : ChannelEntry) (x : α) (h : cs[j]? = some (c', e)) (hx : xs[j]? = some x) :
    (mapChannel f c cs xs)[j]? = some (if c' = c ∧ e = .included then f x else x) := by
  induction cs generalizing xs j with
  | nil => simp at h
  | cons k cs ih =>
    cases xs with
    | nil => simp at hx
    | cons y xs =>
      cases j with
      | zero => simp_all [mapChannel]
      | succ j =>
        simp only [List.getElem?_cons_succ] at h hx
        simp only [mapChannel, List.getElem?_cons_succ, ih xs j h hx]

/-- A row of a judged window is that order's row judged. -/
theorem judgeOrders_getElem? (w : Window) (set : OrderSet) (b : Block) (v : Int) (os : List Nat) (es : List OrderEntry)
    (css : List (List (Int × Int))) (rows : List (List PairCount)) (k order : Nat) (entry : OrderEntry)
    (sums : List (Int × Int)) (row : List PairCount) (h1 : os[k]? = some order) (h2 : es[k]? = some entry)
    (h3 : css[k]? = some sums) (h4 : rows[k]? = some row) :
    (judgeOrders w set b v os es css rows)[k]? = some (judgeOrder w set b v order entry sums row) := by
  induction os generalizing es css rows k with
  | nil => simp at h1
  | cons o os ih =>
    cases es with
    | nil => simp at h2
    | cons e es =>
      cases css with
      | nil => simp at h3
      | cons cs css =>
        cases rows with
        | nil => simp at h4
        | cons r rows =>
          cases k with
          | zero => simp_all [judgeOrders]
          | succ k =>
            simp only [List.getElem?_cons_succ] at h1 h2 h3 h4
            simp only [judgeOrders, List.getElem?_cons_succ, ih es css rows k h1 h2 h3 h4]

/-- Closing a window does not look at the Run-in Sequencer and does not change it. -/
theorem closeWindow_setRunIn (s : State) (x : RunIn) :
    closeWindow (s.setRunIn x) = ((closeWindow s).1, (closeWindow s).2.setRunIn x) := by
  have hs : ∀ n, (s.setRunIn x).activeSet n = s.activeSet n := fun _ => rfl
  unfold closeWindow
  simp only [State.setRunIn_engine, hs]
  cases s.engine.window with
  | none => rfl
  | some w =>
    dsimp only
    cases s.activeSet w.slot with
    | none => rfl
    | some set =>
      have ho : (s.setRunIn x).orderSlot w.slot = s.orderSlot w.slot := rfl
      simp only [ho]
      split
      · split
        · simp only [carryOutSwap, updateSlot, updateUnit, State.setUnits_tables, State.setEngine_tables,
            State.setRunIn_tables]
          split <;> rfl
        · rfl
      · rfl

/-- What closing a window leaves alone, beside what `JobStep` says of every job. -/
theorem closeWindow_frame (s : State) :
    (closeWindow s).2.channels = s.channels ∧ (closeWindow s).2.angle = s.angle ∧ (closeWindow s).2.leak = s.leak ∧
      (closeWindow s).2.runIn = s.runIn ∧ (closeWindow s).2.arbiter = s.arbiter ∧
      (closeWindow s).2.engine.window = none := by
  unfold closeWindow
  split
  · rename_i h; simp [h]
  · split
    · simp
    · dsimp only
      split <;> split <;> simp_all [carryOutSwap, updateSlot, updateUnit, raise] <;> (repeat' split) <;> simp_all

end Sys2Proof.Machine
end

