-- ==== Sys2Proof/Laws/Operands.lean ====
section
/-! SUPPORT. What the readers of Machine/Operands.lean answer: a byte names a value exactly when it is that value's code,
and a list is read element by element. -/

namespace Sys2Proof.Machine

theorem boolOf_iff {n : Nat} {b : Bool} : boolOf n = some b ↔ n = if b then 1 else 0 := by
  unfold boolOf; split <;> cases b <;> simp_all

theorem bayOf_iff {n : Nat} {bay : Bay} : bayOf n = some bay ↔ n = bayCode (some bay) := by
  unfold bayOf; split <;> cases bay <;> simp_all [bayCode]

theorem roleOf_iff {n : Nat} {r : Role} : roleOf n = some r ↔ n = r.code := by
  unfold roleOf; split <;> cases r <;> simp_all [Role.code]

theorem dispositionOf_iff {n : Nat} {d : Disposition} : dispositionOf n = some d ↔ n = d.code := by
  unfold dispositionOf; split <;> cases d <;> simp_all [Disposition.code]

theorem angleModeOf_iff {n : Nat} {m : AngleMode} : angleModeOf n = some m ↔ n = m.code := by
  unfold angleModeOf; split <;> cases m <;> simp_all [AngleMode.code]

theorem orderBaseOf_iff {n : Nat} {b : OrderBase} : orderBaseOf n = some b ↔ n = b.code := by
  unfold orderBaseOf; split <;> cases b <;> simp_all [OrderBase.code]

theorem groupOf_iff {n : Nat} {g : Group} : groupOf n = some g ↔ n = g.code := by
  unfold groupOf; split <;> cases g <;> simp_all [Group.code]

theorem outClassOf_iff {n : Nat} {c : OutClass} : outClassOf n = some c ↔ n = c.code := by
  unfold outClassOf; split <;> cases c <;> simp_all [OutClass.code]

theorem checksOf_iff {n : Nat} {c : Checks} : checksOf n = some c ↔ n = checksBits c := by
  unfold checksOf
  obtain ⟨runin, noise, leak⟩ := c
  constructor
  · intro h
    split at h
    · interval_cases n <;> cases h <;> rfl
    · cases h
  · rintro rfl
    cases runin <;> cases noise <;> cases leak <;> rfl

/-- A 1-byte field that may be none: FF hex is none, any other byte its number. -/
theorem noneOr_iff {n : Nat} {x : Option Nat} (hn : n < 256) :
    noneOr n = x ↔ (∀ m, x = some m → m ≤ 254) ∧ n = x.getD 255 := by
  unfold noneOr
  rcases x with _ | m <;> split <;> simp_all <;> omega

/-- A list is read exactly when every element is. -/
theorem allOf_iff {α β : Type} {f : α → Option β} {xs : List α} {ys : List β} :
    allOf f xs = some ys ↔ List.Forall₂ (fun x y => f x = some y) xs ys := by
  induction xs generalizing ys with
  | nil => cases ys <;> simp [allOf]
  | cons x xs ih =>
    simp only [allOf]
    constructor
    · intro h
      split at h
      · next h1 h2 => cases h; exact .cons h1 (ih.1 h2)
      · cases h
    · intro h
      cases h with
      | cons h1 h2 => simp only [h1, ih.2 h2]

end Sys2Proof.Machine
end

