-- ==== Sys2Proof/WellFormed.lean ====
section
/-! DEFINITION. Which terms of `Instr` name a step that the outside world can make happen.

`exec` is total: it also has an answer for an ill-formed term.  The bounds are those of the wires: a frame that reaches
more than 125 bytes never arrives whole (R3), the stream table has 16 entries (spec/02_streams_and_channels.md, 2.1),
and the configuration memory has 16-bit byte addresses (spec/11_management_requests_reset_and_start_up.md, 11.7). -/

namespace Sys2Proof

/-- The operands lie in the ranges the manual gives them. -/
def Instr.wellFormed : Instr → Bool
  | .frameArrival bytes => bytes.length ≤ 125
  | .staleTimeout entry => entry < 16
  | .configImageRead (some image) => image.length ≤ 65536
  | .configImageRead none => true
  | .resetEnd _ _ _ | .guard _ => true
  | .powerOn | .pinReset | .configRecordReplay | .fragment | .transmissionEnd | .ringDownTimeout => true
  | .assemblyTimeout | .rampEnd | .settleEnd | .holdEnd | .speedPersistExpiry | .driveRefresh => true
  | .stopTimeout | .fillTimeout | .leakSettleEnd | .measureEnd | .ventTimeout | .valveRefresh => true
  | .badRequest | .bind | .reset | .stationResetClearing | .readStatus | .setNotice | .clearNotice => true
  | .loadStream | .loadChannel | .channelEnable | .clearChannel | .readChannel | .readAngle => true
  | .clearAngle | .loadStand | .loadVariant | .loadProfile | .loadOrderSet | .swapOrderSet => true
  | .readTable | .admitUnit | .advanceA | .advanceB | .release | .withdraw | .readUnit => true
  | .startSpin | .abortSpin | .clearFaultA | .startLeak | .abortLeak | .clearFaultB => true
  | .readStats | .clearStats | .releaseVariant => true

end Sys2Proof
end

