-- ==== Sys2Proof/Tests/Slice0.lean ====
section
/-! SUPPORT. Tests: the worked examples and tables of spec/, the checks of WellFormed, and for every statement with
hypotheses a state and operands that meet them, clause by clause and at the ends of their ranges. -/

namespace Sys2Proof.Tests

open Machine

/-! ## Small states -/

/-- The stand record of the worked examples of chapters 3, 6 and 8. -/
def stand : Stand :=
  { angleSource := 3, cpr := 1024, mode := .index, tolerance := 8, standstillWindow := 4, driveNode := 9,
    valveNode := 11, refresh := 50, stopRamp := 4000, stopTimeout := 10000, ventThreshold := 500, ventTimeout := 10000,
    defaultAmbient := 2000, patm := 101325 }

/-- Variant 4711 of the worked example of chapter 8. -/
def variant : Variant :=
  { id := 4711, pinionTeeth := 11, ringTeeth := 41, profile := 0,
    required := { runin := true, noise := true, leak := true }, oilLimit := 9000, speedTolerance := 25,
    speedPersist := 500, targetPressure := 40000, fillBand := 500, fillTimeout := 30000, settleTime := 15000,
    measureTime := 20000, window := 50, volume := 18000, leakLimit := 4000, coolingSpan := 3600000, retestLimit := 1,
    holdThreshold := 3 }

def segment : Segment :=
  { target := 4000, ramp := 2000, settle := 1000, hold := 5000, load := 100, torqueLimit := 300, slot := some 0 }

def curve : List CurvePoint := [{ speed := 2400, limit := 9600 }, { speed := 4800, limit := 14400 }]

def orderSet : OrderSet :=
  { revs := 2, minValid := 2, failCount := 2, steadiness := 20, channels := [4],
    orders := [{ base := .mesh, harmonic := 1, direct := 0, curve := curve }] }

def tables : Tables :=
  { sizes := { v := 1, p := 1, s := 1, o := 1, k := 1 },
    variants := [{ record := some variant, stats := Stats.zero }], profiles := [some [segment]],
    orderSets := [{ active := some orderSet, shadow := some orderSet, swapPending := false }] }

def serial (n : Nat) : Serial := byteOf (65 + n) :: List.replicate 15 0x20

def unit (n : Nat) (p : Position) : UnitRecord := { UnitRecord.admitted (serial n) 4711 1000 with position := p }

def channel (role : Role) (bay : Option Bay) : Channel :=
  { config := some { role := role, bay := bay, gain := 65536, offset := 0, clip := 32767, flat := 16,
                     rangeMin := -40000, rangeMax := 40000 },
    acquire := true, diagnose := true, status := .ok, lastRaw := some 5, lastValue := some 5, clipCount := 0,
    filledCount := 0, flatRun := 15 }

def stream : StreamConfig :=
  { enable := true, source := 5, number := 0, count := 2, hasPosition := true, hasIndex := true, fs := 25600,
    stale := 20, disposition := .forward, binding := [some 0, none] }

def streamRun : StreamRun :=
  { StreamRun.cleared with state := .live, expected := some 255, lastArrival := some 0,
                           last := some { values := [1, 2], position := some 5010 } }

def track : Track := { Track.locked .index 43010 with current := 1 }

/-- A part that has left reset as node 6, in UP, with nothing loaded. -/
def live : State :=
  { State.reset with
    pins := { straps := 6, loadStrap := false, resetHeld := false, guardLow := false },
    ring := { State.reset.ring with node := 6, port := .up, stamp := some 0, everUp := true },
    runIn := { State.reset.runIn with guardAsserted := false } }

/-- The part bound and loaded, a unit at each position, channels 0 to 3 usable, stream 3 LIVE and LOCKED to. -/
def line : State :=
  { live with
    stand := some stand, tables := some tables, units := [unit 2 .bayB, unit 1 .transfer, unit 0 .bayA],
    channels := [channel .torque (some .a), channel .oilTemp (some .a), channel .pressure (some .b),
                 channel .ambientTemp none] ++ List.replicate 20 Channel.unloaded,
    streams := List.replicate 3 { config := none, run := StreamRun.cleared } ++
      [{ config := some stream, run := streamRun }] ++
      List.replicate 12 { config := none, run := StreamRun.cleared },
    angle := { state := .locked track, totalSlips := 0, standstill := true, history := [], historyStart := none } }

def spinRun (phase : SpinPhase) : SpinRun :=
  { phase := phase, segment := 0, phaseStart := 0, pending := some .pass, written := false,
    torqueChannel := 0, oilChannel := 1, stand := stand, variant := variant, profile := [segment],
    errorStart := some 0, acc := HoldAcc.cleared, unavailable := false }

def drive : DriveCommand := { run := true, number := 17, speed := 4000, ramp := 2000, torque := 100 }

/-- A run-in in the given phase. -/
def spinning (phase : SpinPhase) : State :=
  { line with runIn := { run := some (spinRun phase), outcomeSegment := some 0, commandNumber := 17,
                         lastCommand := some drive, refreshStart := some 0, guardAsserted := false } }

def leakRun (phase : LeakPhase) : LeakRun :=
  { leakRunOf 2 stand variant 0 with phase := phase, pending := some .pass, tMs := some 0, ambient := some 2300 }

/-- A leak test in the given phase. -/
def leaking (phase : LeakPhase) : State :=
  { line with leak := { run := some (leakRun phase), count := 0, commandNumber := 17, lastCommand := some .vent,
                        refreshStart := some 0, suppressed := false } }

/-- The state at a Time Base value. -/
def clock (s : State) (n : Nat) : State := s.setTimeBase (BitVec.ofNat 32 n)

/-- A request of one kind with tag 7 from node 14. -/
def request (kind : Nat) (args : List Byte) : Request := { src := 14, head := [0, 7, byteOf kind], args := some args }

/-- The state with that one request waiting. -/
def asked (s : State) (kind : Nat) (args : List Byte) : State :=
  s.setRequests { s.requests with queue := [request kind args] }

/-- The state with a frame of this origin on the line. -/
def sending (s : State) (origin : Origin) : State :=
  s.setRing { s.ring with line := some { bytes := [], origin := origin } }

def reset : ResetWait :=
  { src := 14, tag := 7, driveNumber := 18, valveNumber := 18, driveDone := true, valveDone := true }

/-! ## WellFormed -/

theorem test_frame_of_125_bytes_wellFormed :
    (Instr.frameArrival (List.replicate 125 0)).wellFormed = true ∧
    (Instr.frameArrival (List.replicate 126 0)).wellFormed = false := by decide +kernel

theorem test_sixteen_stream_entries_wellFormed :
    (Instr.staleTimeout 15).wellFormed = true ∧ (Instr.staleTimeout 16).wellFormed = false := by decide

theorem test_image_size_wellFormed :
    (Instr.configImageRead (some (List.replicate 65536 0))).wellFormed = true ∧
    (Instr.configImageRead (some (List.replicate 65537 0))).wellFormed = false := by
  constructor <;> simp only [Instr.wellFormed, List.length_replicate] <;> decide

theorem test_no_word_spells_a_command : decodeTableWord 32 0xFFFFFFFF = none ∧ State.reset.withFetchWord 8 1 = State.reset := by
  decide

/-! ## Worked examples and tables of the manual -/

/-- The CRC-16 of R4 (generator 1021 hex, preset FFFF hex, no final inversion) of "123456789" is 29B1 hex, the published
check value of that CRC. -/
theorem test_crc_check_value : crc16 [0x31, 0x32, 0x33, 0x34, 0x35, 0x36, 0x37, 0x38, 0x39] = 0x29B1#16 := by
  decide +kernel

/-- R22: with positions 5010 and 5030 the filled position is 5020; with −7 and −4 it is −6. -/
theorem test_filled_positions :
    (filledSet { values := [130, 2100], position := some 5010 } { values := [], position := some 5030, capture := some 9 })
      = { values := [130, 2100], position := some 5020, capture := none } ∧
    (filledSet { values := [], position := some (BitVec.ofInt 32 (-7)) }
      { values := [], position := some (BitVec.ofInt 32 (-4)), capture := none }).position =
        some (BitVec.ofInt 32 (-6)) := by decide

/-- R43: 690 counts past the reference with CPR = 1024 are 44160 in forward and 21376 in reverse travel. -/
theorem test_angle_of_690_counts :
    (angleStep stand { track with moved := true } 43700).angle16 = some 44160 ∧
    (angleStep stand { track with moved := true, direction := .reverse } 43700).angle16 = some 21376 := by decide

/-- R51: BIND with V = 32, P = 8, S = 24, O = 6, K = 12 costs 2784 words. -/
theorem test_bind_cost : ({ v := 32, p := 8, s := 24, o := 6, k := 12 } : Sizes).cost = 2784 := by decide

/-- R114: the two curves of the rule at |v| = 3000, and the block of the worked example of chapter 7 at 4000 and 3800. -/
theorem test_limits :
    limitAt [{ speed := 2400, limit := 10000 }, { speed := 4800, limit := 9999 }] 3000 = 9999 ∧
    limitAt [{ speed := 2400, limit := 9999 }, { speed := 4800, limit := 10000 }] 3000 = 9999 ∧
    limitAt curve 4000 = 12800 ∧ limitAt curve 3800 = 12400 := by decide

/-- R113: C = 3 × 8,053,063,680 and S = −4 × 8,053,063,680 with N = 3072 give A = 12800. -/
theorem test_amplitude : amplitude 24159191040 (-32212254720) 3072 = 12800 := by decide

/-- R107: order 11.0 at r = 1 and angle16 = 44160 has phase16 = 27008. -/
theorem test_phase : phase16 (11 * 65536) 1 44160 = 27008 := by decide

/-- R108: the five entries the rule names. -/
theorem test_sine_table :
    [0, 128, 256, 512, 768].map sinTable = [0, 23170, 32767, 0, -32767] := by decide

/-- R111: N = 3072 with B = 2 at 25600 Hz gives v = 4000; 30 filled sets of 3072 pass and 31 are marked. -/
theorem test_block_marks :
    blockSpeed 25600 2 { Block.begun 1 1 with n := 3072 } = 4000 ∧
    blockMark 20 4000 false { Block.begun 1 1 with n := 3072, filled := 30, spread := some (3960, 4040) } = none ∧
    blockMark 20 4000 false { Block.begun 1 1 with n := 3072, filled := 31 } = some .filled ∧
    blockMark 20 4000 false { Block.begun 1 1 with n := 3072, spread := some (3960, 4041) } = some .unsteady := by
  decide

/-- R112: the order of 5,767,168 is judged in a block of 384 sets and ABOVE_BAND in one of 349. -/
theorem test_above_band : aboveBand 5767168 2 384 = false ∧ aboveBand 5767168 2 349 = true := by decide

/-- R132: the worked example of chapter 8, step by step. -/
theorem test_leak_computation :
    leakComputation stand variant { unit 0 .bayB with tEnd := some 6500, tEndAt := some 1000000 } 2300 1240000 40000 39840 =
      { p1 := 40000, p2 := 39840, dMeas := 160, dTherm := 101, dLeak := 59, q := 3144, uncompensated := false,
        gain := false } := by decide

/-- R130: the floor of the two means of the worked example of chapter 8. -/
theorem test_mean_pressures : floorDiv 2000012 50 = 40000 ∧ floorDiv 1992021 50 = 39840 := by decide

/-- Section 12.1: the payloads of a drive and a valve command. -/
theorem test_command_payloads :
    { drive with speed := -2, torque := -1 }.payload = [1, 17, 1, 0xFF, 0xFE, 0x07, 0xD0, 0xFF, 0xFF] ∧
    ({ kind := .vent, number := 21 } : ValveCommand).payload = [2, 21, 2] := by decide

/-- R167: an unknown kind, and a wrong length, are BAD_REQUEST; CLEAR_FAULT with bay 3 is BAD_VALUE. -/
theorem test_form_check :
    (request 0x60 []).form = .error .badRequest ∧ (request 0x01 [1, 2]).form = .error .badRequest ∧
    (request 0x42 [3]).form = .error .badValue := ⟨rfl, rfl, rfl⟩

/-! ## Statements about steps and resets have cases -/

theorem test_hyps_StepTakesFrontCommand : (live.setPending [.fragment]).pending = .fragment :: [] := rfl

theorem test_hyps_IdleStepTakesADueEventOrCounts :
    State.reset.pending = [] ∧ State.reset.pins.resetHeld = true ∧
    live.pending = [] ∧ live.pins.resetHeld = false ∧ dueEvents live = [] ∧
    (clock live 2).pending = [] ∧ dueEvents (clock live 2) = [.ringDownTimeout] := by decide

theorem test_hyps_ResetsClearThePartAndStartIt :
    Instr.pinReset ∈ [Instr.powerOn, Instr.pinReset] ∧ Instr.powerOn ∈ [Instr.powerOn, Instr.pinReset] ∧
    State.reset.pins.resetHeld = true ∧ live.pins.resetHeld = false := by decide

theorem test_hyps_HeldInResetNothingActs :
    State.reset.pins.resetHeld = true ∧ Instr.fragment ≠ .powerOn ∧ Instr.fragment ≠ .pinReset ∧
    (∀ straps load asserted, Instr.fragment ≠ .resetEnd straps load asserted) ∧
    (∀ asserted, Instr.fragment ≠ .guard asserted) := by
  refine ⟨rfl, ?_, ?_, ?_, ?_⟩ <;> intros <;> intro h <;> cases h

/-! ## Statements about the ring have cases -/

def bypassed : State := live.setRing { live.ring with node := 0, port := .bypass }

theorem test_hyps_BypassOnlyRepeats :
    bypassed.pins.resetHeld = false ∧ bypassed.ring.port = .bypass ∧ bypassed.ring.buffer = [] := ⟨rfl, rfl, rfl⟩

/-- A frame of the largest fields, and one whose hop limit is the smallest that is forwarded. -/
theorem test_hyps_FramesReadBackAsBuilt :
    (let f : Frame := { dest := 15, src := 15, kind := 15, hop := 15, payload := List.replicate 120 0xFF }
     f.dest < 16 ∧ f.src < 16 ∧ f.kind < 16 ∧ f.hop < 16 ∧ f.payload.length ≤ 120) ∧
    (let f : Frame := { dest := 0, src := 5, kind := 1, hop := 2, payload := [] }
     checkFrame f.encode = some f ∧ 2 ≤ f.hop) := by decide +kernel

/-- One frame for each row of R5's table. -/
theorem test_hyps_GoodFramesAreClassifiedOnce :
    line.pins.resetHeld = false ∧ line.ring.port ≠ .bypass ∧
    ∀ f ∈ ([{ dest := 0, src := 6, kind := 6, hop := 1, payload := [] },
            { dest := 6, src := 14, kind := 3, hop := 9, payload := [0, 7, 3, 1] },
            { dest := 6, src := 14, kind := 4, hop := 9, payload := [] },
            { dest := 0, src := 14, kind := 4, hop := 1, payload := [] },
            { dest := 0, src := 5, kind := 1, hop := 2, payload := [0] },
            { dest := 0, src := 5, kind := 1, hop := 2, payload := [1] }] : List Frame),
      checkFrame f.encode = some f := by decide +kernel

theorem test_hyps_BadFramesFragmentsAndTheForwardPath :
    live.pins.resetHeld = false ∧ live.ring.port ≠ .bypass ∧ (List.replicate 125 (0 : Byte)).length ≤ 125 ∧
    checkFrame (0 :: 0 :: 0 :: List.replicate 122 0) = none ∧ 125 < (List.replicate 126 (0 : Byte)).length ∧
    live.ring.line = none ∧ live.ring.buffer = [] ∧
    (let s := (sending live .transit).setRing { (sending live .transit).ring with buffer := [[1]] }
     s.ring.line ≠ none ∧ s.ring.buffer.length < 2) ∧
    (let s := (sending live .transit).setRing { (sending live .transit).ring with buffer := [[1], [2]] }
     s.ring.line ≠ none ∧ s.ring.buffer.length = 2) := by
  refine ⟨by decide, by decide, by decide +kernel, by simp [checkFrame], by decide +kernel, by decide, by decide, ?_, ?_⟩
  · decide
  · decide

theorem test_hyps_RingStateFollowsGoodArrivals :
    ((clock live 2).pins.resetHeld = false ∧ (clock live 2).ring.port = .up ∧ (clock live 2).ring.stamp = some 0 ∧
      2 ≤ elapsed (clock live 2).timeBase 0) ∧
    ((clock live 1).ring.port = .up → ∀ t, (clock live 1).ring.stamp = some t →
      elapsed (clock live 1).timeBase t < 2) := by
  refine ⟨by decide, ?_⟩
  intro _ t h
  cases h
  decide

theorem test_hyps_IdleLineTakesTransitThenTheOffer :
    (sending live .transit).ring.line ≠ none ∧ live.ring.line = none ∧ live.ring.buffer = [] ∧
    (live.setRing { live.ring with buffer := [[1], [2]] }).ring.buffer = [1] :: [[2]] ∧
    (live.setArbiter { live.arbiter with driveSlot := some (9, drive) }).arbiter.driveSlot = some (9, drive) ∧
    (live.setArbiter { live.arbiter with valveSlot := some (11, { kind := .fill, number := 1 }) }).arbiter.driveSlot =
      none ∧
    live.arbiter.driveSlot = none ∧ live.arbiter.valveSlot = none := by decide

def summary : Summary :=
  { segment := 0, meanTorque := none, maxTorque := none, maxOil := none, minSpeed := none, maxSpeed := none, valid := 0,
    unavailable := false }

/-- A report with all it can hold. -/
def fullReport : Report :=
  { number := 1041, verdict := .accept, basis := Checks.empty, required := Checks.empty,
    unit := { unit 2 .bayB with
      summaries := List.replicate 32 summary,
      findings := List.replicate 48 { segment := 0, order := 0, channel := 4, valid := 0, fail := 0, invalid := 0,
                                      worst := none, verdict := .pass } } }

theorem test_hyps_InsertedFramesAreThePartsOwn :
    (List.replicate 120 (0 : Byte)).length ≤ 120 ∧ live.notices.records.length = 14 ∧
    ((raise live .guard none none (.number 0)).notices.record .guard).occurrence ≠ none ∧
    ((raise live .streamStale none none (.number 0)).notices.record .streamStale).occurrence ≠ none ∧
    (∀ n, (n = 115 ∨ n = 116 ∨ n = 1380) →
      (Reply.mk 14 7 0x34 0 (List.replicate n 0)).frames = if n = 115 then 1 else if n = 116 then 2 else 12) ∧
    fullReport.unit.serial.length = 16 ∧ fullReport.unit.summaries.length = 32 ∧
    fullReport.unit.findings.length = 48 ∧ fullReport.segments = 13 := by
  refine ⟨by decide, by decide, by decide, by decide, ?_, by decide, by decide, by decide, by decide⟩
  rintro n (rfl | rfl | rfl) <;> decide +kernel

def report : Report :=
  { number := 1041, verdict := .accept, basis := Checks.empty, required := Checks.empty, unit := unit 2 .bayB }

/-- One origin for each clause; the reply is in its last frame, the report in its first segment. -/
theorem test_hyps_TransmissionEndReportsToItsPlace :
    (∀ o ∈ [Origin.transit, .notice, .drive 18, .valve 18, .reply, .report 1041 0],
      (sending live o).pins.resetHeld = false ∧ (sending live o).ring.line = some { bytes := [], origin := o }) ∧
    (enqueueReply (sending live .reply) (resetReply 14 7)).arbiter.replies = resetReply 14 7 :: [] ∧
    ((sending live (.report 1041 0)).setReports { reports := [report], transmitted := 0, next := 1042 }).reports.reports =
      report :: [] ∧
    (sending live (.report 1041 0)).reports.reports = [] := by decide

/-! ## Statements about notices have cases -/

/-- GUARD pending with this count. -/
def pendingCount (n : Nat) : State :=
  live.setNotices (live.notices.setRecord .guard
    { occurrence := some { count := n, context := { bay := none, serial := none, detail := .number 0 } },
      announced := false })

/-- Not pending, pending below the largest count, and at it. -/
theorem test_hyps_RaiseStoresOrCounts :
    live.notices.records.length = 14 ∧ (live.notices.record .guard).occurrence = none ∧
    ((pendingCount 254).notices.record .guard).occurrence.map Occurrence.count = some 254 ∧
    ((pendingCount 255).notices.record .guard).occurrence.map Occurrence.count = some 255 := by decide

theorem test_hyps_OfferedNoticeRanksFirst :
    live.notices.settings.groups.Nodup ∧ (∀ g : Group, g ∈ live.notices.settings.groups) ∧
    (pendingCount 1).notices.offer = some .guard := by
  refine ⟨by decide, ?_, by decide⟩
  intro g
  cases g <;> decide

theorem test_hyps_NoticeRequestsSetAndClear :
    (asked live 0x08 [0x3F, 0xFF, 1, 2, 1, 0, 2, 1, 0]).takes (request 0x08 [0x3F, 0xFF, 1, 2, 1, 0, 2, 1, 0])
      (.setNotice (some { masked := 0x3FFF, enable := true, groups := [.info, .process, .fault],
                          classes := [.report, .notice, .reply] })) ∧
    (asked live 0x08 [0x40, 0, 1, 2, 1, 0, 2, 1, 0]).takes (request 0x08 [0x40, 0, 1, 2, 1, 0, 2, 1, 0])
      (.setNotice none) ∧
    settingsOf [16383, 1, 2, 1, 0, 2, 1, 0] ≠ none ∧
    (∀ n ∈ [0, 1, 16383, 16384], (asked live 0x09 (enc2 n)).takes (request 0x09 (enc2 n))
      (.clearNotice (BitVec.ofNat 16 n))) := by
  refine ⟨⟨rfl, by decide +kernel⟩, ⟨rfl, by decide +kernel⟩, by decide +kernel, ?_⟩
  simp only [List.forall_mem_cons, List.not_mem_nil, false_imp_iff, implies_true, and_true]
  exact ⟨⟨rfl, rfl⟩, ⟨rfl, rfl⟩, ⟨rfl, rfl⟩, ⟨rfl, rfl⟩⟩

/-! ## Statements about requests have cases -/

theorem test_hyps_FormCheckAllowsTheEncodedLengths :
    ((request 0x34 []).args = some [] ∧ kindOf (request 0x34 []).head = 0x34) ∧
    ((request 0x10 []).args = some [] ∧ kindOf (request 0x10 []).head = 0x10) ∧
    ((request 0x22 []).args = some [] ∧ kindOf (request 0x22 []).head = 0x22) ∧
    ((request 0x23 []).args = some [] ∧ kindOf (request 0x23 []).head = 0x23) ∧
    ((request 0x25 [6]).args = some [6] ∧ kindOf (request 0x25 [6]).head = 0x25) ∧
    (shortRequest 14 [0, 7]).args = none ∧
    kindOf (request 0x00 []).head ∉ [0x01, 0x02, 0x03, 0x08, 0x09, 0x10, 0x11, 0x12, 0x13, 0x14, 0x18, 0x19, 0x20, 0x21,
      0x22, 0x23, 0x24, 0x25, 0x30, 0x31, 0x32, 0x33, 0x34, 0x40, 0x41, 0x42, 0x48, 0x49, 0x50, 0x51, 0x52] ∧
    ((request 0x31 [0]).args = some [0] ∧ kindOf (request 0x31 [0]).head = 0x31 ∧ (0 : Byte) ≠ 1 ∧ (0 : Byte) ≠ 2) ∧
    ((request 0x42 [3]).args = some [3] ∧ kindOf (request 0x42 [3]).head = 0x42 ∧ (3 : Byte) ≠ 1 ∧ (3 : Byte) ≠ 2) := by
  decide +kernel

def assembly : Assembly := { src := 14, head := [0, 7, 0x22], total := 3, next := 1, args := [], since := 0 }

def assembling : State := live.setRequests { live.requests with assembly := some assembly }

/-- Queue lengths 3 and 4; ages 99 and 100 ms; and one part byte for each clause. -/
theorem test_hyps_RequestPartsJoinAndQueue :
    (live.setRequests { live.requests with queue := List.replicate 3 (request 3 []) }).requests.queue.length < 4 ∧
    4 ≤ (live.setRequests { live.requests with queue := List.replicate 4 (request 3 []) }).requests.queue.length ∧
    assembling.pins.resetHeld = false ∧ assembling.requests.assembly = some assembly ∧
    100 ≤ elapsed (clock assembling 100).timeBase assembly.since ∧
    elapsed (clock assembling 99).timeBase assembly.since < 100 ∧
    ([0, 7, 0x22] : List Byte).length < 4 ∧
    ((0x01 : Byte).toNat / 16 = 0 ∧ (0x01 : Byte).toNat % 16 = 1) ∧
    ((0x02 : Byte).toNat / 16 = 0 ∧ 2 ≤ (0x02 : Byte).toNat % 16) ∧
    (assembly.head = [0, 7, 0x22] ∧ (0x13 : Byte).toNat % 16 = assembly.total ∧ (0x13 : Byte).toNat / 16 = assembly.next ∧
      assembly.next ≠ 0 ∧ assembly.next + 1 ≠ assembly.total) ∧
    (let a := { assembly with next := 2 }
     (0x23 : Byte).toNat % 16 = a.total ∧ (0x23 : Byte).toNat / 16 = a.next ∧ a.next ≠ 0 ∧ a.next + 1 = a.total) ∧
    ¬((0x10 : Byte).toNat / 16 = 0 ∧ 1 ≤ (0x10 : Byte).toNat % 16) ∧
    ¬(14 = assembly.src ∧ assembly.head = [0, 7, 0x22] ∧ (0x23 : Byte).toNat % 16 = assembly.total ∧
      (0x23 : Byte).toNat / 16 = assembly.next) := by decide

theorem test_hyps_RequestsWaitForTheirTurn :
    Instr.bind ∈ requestRows ∧ live.oldest = none ∧
    (asked live 0x03 []).oldest = some (request 0x03 []) ∧ Instr.bind ≠ (request 0x03 []).row ∧
    (asked live 0x60 []).oldest = some (request 0x60 []) ∧ (request 0x60 []).form = .error .badRequest ∧
    (asked live 0x42 [3]).oldest = some (request 0x42 [3]) ∧ (request 0x42 [3]).form = .error .badValue :=
  ⟨by decide, rfl, rfl, by decide, rfl, rfl, rfl, rfl⟩

theorem test_hyps_ResetIssuesItsSafeCommands :
    ((asked line 0x02 []).takes (request 0x02 []) .reset ∧ (asked line 0x02 []).stand = some stand ∧
      (asked line 0x02 []).leak.suppressed = false) ∧
    ((asked live 0x02 []).takes (request 0x02 []) .reset ∧ (asked live 0x02 []).stand = none) :=
  ⟨⟨⟨rfl, rfl⟩, rfl, rfl⟩, ⟨rfl, rfl⟩, rfl⟩

theorem test_hyps_StationResetClearsTheWork :
    (let s := line.setRequests { line.requests with resetWait := some reset }
     s.pins.resetHeld = false ∧ s.requests.resetWait = some reset ∧ reset.driveDone = true ∧ reset.valveDone = true) ∧
    (let s := line.setRequests { line.requests with resetWait := some { reset with valveDone := false } }
     ∀ w, s.requests.resetWait = some w → w.driveDone = false ∨ w.valveDone = false) := by
  refine ⟨⟨rfl, rfl, rfl, rfl⟩, ?_⟩
  intro s w h
  cases h
  exact .inr rfl

/-- An image of one record, READ_STATUS; the same with a wrong sum; and as stored records a part out of turn, with an
assembly open and without, a part that joins, one that is too short, READ_STATUS and RESET. -/
theorem test_hyps_LoaderChecksAndReplaysItsImage :
    readImage (some [0, 5, 0, 15, 4, 0, 7, 3, 1]) = some [[0, 7, 3, 1]] ∧
    readImage (some [0, 5, 0, 16, 4, 0, 7, 3, 1]) = none ∧
    (live.setLoader .reading).pins.resetHeld = false ∧ (live.setLoader .reading).loader = .reading ∧
    (live.setLoader (.replaying 1 [[0, 7, 3, 1]] none)).loader = .replaying 1 ([0, 7, 3, 1] :: []) none ∧
    (∀ a ∈ [none, some assembly], (handlePart a 0 0 [0, 7, 0x22, 0x23]).dropped = true) ∧
    ((handlePart none 0 0 [0, 7, 0x22, 0x02]).dropped = false ∧
      (handlePart none 0 0 [0, 7, 0x22, 0x02]).requests = []) ∧
    (∀ x ∈ [[0, 7], [0, 7, 2, 1], [0, 7, 3, 1]], (handlePart none 0 0 x).dropped = false ∧
      (handlePart none 0 0 x).requests ≠ []) ∧
    ({ src := 0, head := [0, 7, 3], args := some [] } : Request).form = .ok .readStatus ∧
    effectOf .readStatus = some readStatus ∧
    (∀ r, ({ src := 0, head := [0, 7, 2], args := some [] } : Request).form = .ok r → r = .reset) := by
  refine ⟨by decide, by decide, rfl, rfl, rfl, by decide, by decide, by decide, rfl, rfl, ?_⟩
  intro r h
  cases h
  rfl

/-! ## Statements about streams and channels have cases -/

/-- The highest entry that may be named and one that may not; a record out of its values. -/
theorem test_hyps_LoadStreamChecksAndWritesOneEntry :
    (asked line 0x10 (enc1 3 ++ { stream with source := 0 }.bytes)).takes
      (request 0x10 (enc1 3 ++ { stream with source := 0 }.bytes)) (.loadStream 3 none) ∧
    (asked line 0x10 (enc1 15 ++ stream.bytes)).takes (request 0x10 (enc1 15 ++ stream.bytes))
      (.loadStream 15 (some stream)) ∧
    (asked line 0x10 (enc1 16 ++ stream.bytes)).takes (request 0x10 (enc1 16 ++ stream.bytes))
      (.loadStream 16 (some stream)) :=
  ⟨⟨rfl, by decide +kernel⟩, ⟨rfl, by decide +kernel⟩, ⟨rfl, by decide +kernel⟩⟩

def config : ChannelConfig :=
  { role := .vibration, bay := some .a, gain := 1, offset := -1, clip := 32767, flat := 4096, rangeMin := -5,
    rangeMax := -5 }

theorem test_hyps_ChannelRequestsWriteOneChannel :
    (asked line 0x11 (enc1 23 ++ { config with clip := 0 }.bytes)).takes
      (request 0x11 (enc1 23 ++ { config with clip := 0 }.bytes)) (.loadChannel 23 none) ∧
    (asked line 0x11 (enc1 23 ++ config.bytes)).takes (request 0x11 (enc1 23 ++ config.bytes))
      (.loadChannel 23 (some config)) ∧
    ((asked line 0x12 [0, 0, 1]).takes (request 0x12 [0, 0, 1]) (.channelEnable 0 (some false) (some true)) ∧
      (asked line 0x12 [0, 0, 1]).channels[0]? = some (channel .torque (some .a))) ∧
    ((asked line 0x12 [24, 1, 1]).takes (request 0x12 [24, 1, 1]) (.channelEnable 24 (some true) (some true)) ∧
      (asked line 0x12 [24, 1, 1]).channels.length ≤ 24) ∧
    (asked line 0x12 [0, 2, 1]).takes (request 0x12 [0, 2, 1]) (.channelEnable 0 none (some true)) ∧
    (asked line 0x13 [24]).takes (request 0x13 [24]) (.clearChannel 24) :=
  ⟨⟨rfl, by decide +kernel⟩, ⟨rfl, by decide +kernel⟩, ⟨⟨rfl, rfl⟩, rfl⟩, ⟨⟨rfl, rfl⟩, by decide⟩, ⟨rfl, rfl⟩,
    ⟨rfl, rfl⟩⟩

theorem test_hyps_ReadsAnswerAndChangeNothing :
    (asked line 0x03 []).takes (request 0x03 []) .readStatus ∧
    (asked line 0x18 []).takes (request 0x18 []) .readAngle ∧
    (asked line 0x14 [0, 23]).takes (request 0x14 [0, 23]) (.readChannel 0 23) ∧
    (asked line 0x14 [1, 16]).takes (request 0x14 [1, 16]) (.readChannel 1 16) ∧
    (asked line 0x25 [2, 0]).takes (request 0x25 [2, 0]) (.readTable (some .variant) 0) ∧
    (asked line 0x25 [6]).takes (request 0x25 [6]) (.readTable none 0) ∧
    (asked line 0x34 ([3, 5] ++ serial 0)).takes (request 0x34 ([3, 5] ++ serial 0)) (.readUnit 3 5 (serial 0)) ∧
    (asked line 0x50 [1]).takes (request 0x50 [1]) (.readStats 1) :=
  ⟨⟨rfl, rfl⟩, ⟨rfl, rfl⟩, ⟨rfl, rfl⟩, ⟨rfl, rfl⟩, ⟨rfl, rfl⟩, ⟨rfl, rfl⟩, ⟨rfl, by decide +kernel⟩, ⟨rfl, rfl⟩⟩

/-- For each kind of load a request that reads as its record, and one with a field just outside its values. -/
theorem test_hyps_RecordsReadBackAsLoaded :
    (request 0x20 stand.bytes).form = .ok (.loadStand (some stand)) ∧
    (request 0x20 { stand with refresh := 101 }.bytes).form = .ok (.loadStand none) ∧
    (request 0x21 (enc1 0 ++ variant.bytes)).form = .ok (.loadVariant 0 (some variant)) ∧
    (request 0x21 (enc1 0 ++ { variant with fillBand := 20000 }.bytes)).form = .ok (.loadVariant 0 none) ∧
    (request 0x22 (enc1 0 ++ encList Segment.bytes [segment])).form = .ok (.loadProfile 0 (some [segment])) ∧
    (request 0x22 (enc1 0 ++ encList Segment.bytes [{ segment with hold := 99 }])).form = .ok (.loadProfile 0 none) ∧
    (request 0x23 (enc1 0 ++ orderSet.bytes)).form = .ok (.loadOrderSet 0 (some orderSet)) ∧
    (request 0x23 (enc1 0 ++ { orderSet with channels := [4, 4] }.bytes)).form = .ok (.loadOrderSet 0 none) ∧
    (request 0x10 (enc1 3 ++ stream.bytes)).form = .ok (.loadStream 3 (some stream)) ∧
    (request 0x10 (enc1 3 ++ { stream with binding := [some 24, none] }.bytes)).form = .ok (.loadStream 3 none) ∧
    (request 0x11 (enc1 23 ++ config.bytes)).form = .ok (.loadChannel 23 (some config)) ∧
    (request 0x11 (enc1 23 ++ { config with flat := 15 }.bytes)).form = .ok (.loadChannel 23 none) ∧
    (request 0x08 [0, 1, 1, 0, 1, 2, 0, 1, 2]).form = .ok (.setNotice (some
      { masked := 1, enable := true, groups := [.fault, .process, .info], classes := [.reply, .notice, .report] })) ∧
    (request 0x08 [0x40, 0, 1, 0, 1, 2, 0, 1, 2]).form = .ok (.setNotice none) := by decide +kernel

/-- One channel for each status the statement treats apart; in the line channel 0, required by a run-in, takes 40000 inside
its range, 40001 outside it, a filled value, and a sixteenth equal one; channel 2 is required by a leak test. -/
theorem test_hyps_ChannelTakesAValueByItsTests :
    Channel.unloaded.config = none ∧ { channel .torque none with status := .disabled }.status = .disabled ∧
    { channel .torque none with status := .fault .flat }.status = .fault .flat ∧
    (let ch := channel .torque (some .a)
     ch.config ≠ none ∧ ch.status ≠ .disabled ∧ (∀ kind, ch.status ≠ .fault kind) ∧ ch.diagnose = true) ∧
    { channel .sound none with diagnose := false }.diagnose = false ∧
    config.role = .vibration ∧ (line.channels[4]?).bind Channel.config = none ∧
    line.channels[0]? = some (channel .torque (some .a)) ∧
    ((channel .torque (some .a)).take 40000 false).2 = .published true ∧
    ((channel .torque (some .a)).take 40001 false).2 = .faulted ∧
    ({ channel .torque (some .a) with lastRaw := some 40001 }.take 40001 false).1.status = .fault .range ∧
    ({ channel .torque (some .a) with lastRaw := some 40001 }.take 40001 false).1.flatRun = 16 ∧
    ((channel .torque (some .a)).take 40001 true).2 = .published false ∧
    ((channel .torque (some .a)).take 5 false).2 = .faulted ∧
    ({ channel .torque (some .a) with status := .disabled }.take 5 false).2 = .dropped ∧
    ({ channel .torque (some .a) with status := .fault .flat }.take 5 false).2 = .recorded ∧
    ((spinning .ramp).runIn.run = some (spinRun .ramp) ∧ (spinRun .ramp).phase.supervised = true ∧
      0 = (spinRun .ramp).torqueChannel ∧ 1 = (spinRun .ramp).oilChannel ∧ (spinning .ramp).stand = some stand) ∧
    ((leaking .fill).leak.run = some (leakRun .fill) ∧ (leakRun .fill).phase.testing = true ∧
      2 = (leakRun .fill).channel ∧ (leaking .fill).stand = some stand) ∧ line.runIn.run = none ∧ line.leak.run = none := by
  refine ⟨rfl, rfl, rfl, ⟨by decide, by decide, ?_, rfl⟩, rfl, rfl, rfl, rfl, by decide, by decide, by decide, by decide,
    by decide, by decide, by decide, by decide, by decide, by decide, rfl, rfl⟩
  intro kind h
  cases h

/-- A sample set of entry 3 with this sequence. -/
def samples (q : Nat) : List Byte := [0, byteOf q, 1, 2, 0, 5, 0, 6, 0, 0, 0x13, 0x92]

/-- Entry 3 expects 255: the expected sequence, the one after it across the wrap, the one before it, and another. -/
theorem test_hyps_SetsAreJudgedByTheirSequence :
    line.streams[3]? = some { config := some stream, run := streamRun } ∧
    readSet stream [0] = none ∧
    (∀ q ∈ [255, 0, 254, 1], (readSet stream (samples q)).map Prod.fst = some q) ∧
    streamRun.state = .live ∧ streamRun.expected = some 255 ∧ 0 = (255 + 1) % 256 ∧ streamRun.last ≠ none ∧
    254 = (255 + 255) % 256 ∧ StreamRun.cleared.state ≠ .live ∧ line.angleSource = some 3 ∧
    line.angleSource ≠ some 2 ∧
    (∀ x ∈ [-32768, 32767], -32768 ≤ x ∧ x ≤ (32767 : Int)) ∧ stream.count = 2 ∧
    (3 : Byte).getLsbD 0 = stream.hasPosition ∧ (3 : Byte).getLsbD 1 = true ∧ stream.hasIndex = true ∧
    readSet stream [0, 255, 3, 2, 0x80, 0, 0x7F, 0xFF, 0, 0, 0, 1, 0, 0, 0, 2] =
      some (255, { values := [-32768, 32767], position := some 1, capture := some 2 }) := by decide +kernel

/-- Entry 3 at its stale timeout and 1 ms before it, with a run-in and a leak test in progress. -/
theorem test_hyps_StaleTimeoutEndsAStream :
    (let s := clock (spinning .hold) 20
     s.pins.resetHeld = false ∧ s.streams[3]? = some { config := some stream, run := streamRun } ∧
     stream.enable = true ∧ streamRun.state = .live ∧ streamRun.lastArrival = some 0 ∧
     stream.stale ≤ elapsed s.timeBase 0 ∧ s.notices.records.length = 14 ∧ s.angleSource = some 3 ∧
     s.runIn.run = some (spinRun .hold) ∧ (spinRun .hold).phase.supervised = true) ∧
    (leaking .fill).leak.run = some (leakRun .fill) ∧ (leakRun .fill).phase.testing = true ∧
    elapsed (clock line 19).timeBase 0 < stream.stale := by decide

/-! ## Statements about the shaft have cases -/

/-- Spacings at both ends of CPR ± tolerance and just outside; a position at the threshold and just beyond it. -/
theorem test_hyps_MarkerSpacingMakesBoundariesAndSlips :
    (∀ d ∈ [1016, 1032], ((stand.cpr : Int) - stand.tolerance ≤ (signedDiff (43010 + BitVec.ofNat 32 d) 43010).natAbs ∧
      ((signedDiff (43010 + BitVec.ofNat 32 d) 43010).natAbs : Int) ≤ stand.cpr + stand.tolerance)) ∧
    (∀ d ∈ [1015, 1033], ¬((stand.cpr : Int) - stand.tolerance ≤
        (signedDiff (43010 + BitVec.ofNat 32 d) 43010).natAbs ∧
      ((signedDiff (43010 + BitVec.ofNat 32 d) 43010).natAbs : Int) ≤ stand.cpr + stand.tolerance)) ∧
    (signedDiff (43010 + 1032) track.reference).natAbs ≤ stand.cpr + stand.tolerance ∧
    stand.cpr + stand.tolerance < (signedDiff (43010 - 1033) track.reference).natAbs ∧
    track.carried = false ∧ { track with carried := true }.carried = true ∧
    (let t := { track with consecutive := 2 }
     t.consecutive ≤ 2 ∧ stand.mode = .index ∧ { stand with mode := .wrap }.mode = .wrap ∧
     (captureStep stand t (43010 + 1015)).1.consecutive = 3 ∧ (captureStep stand t (43010 + 1016)).1.consecutive = 0 ∧
     (indexStep stand (captureStep stand t (43010 + 1016)).1 (43010 + 1016)).2 = .none ∧
     (indexStep stand (captureStep stand t (43010 + 1016)).1 (43010 + 1016 + 1033)).2 ≠ .none) := by decide

/-- A third slip at a capture one count after the reference. -/
theorem test_hyps_ThirdSlipFaultsUntilCleared :
    (let t := { track with consecutive := 2 }
     (moveSteps stand t 43011 (some 43011)).1.consecutive = 3 ∧ line.notices.records.length = 14) ∧
    line.angle.state = .locked track ∧
    (let s := (asked line 0x19 []).setAngle { line.angle with state := .fault track }
     s.takes (request 0x19 []) .clearAngle ∧ s.angle.state = .fault track) ∧
    (asked live 0x19 []).takes (request 0x19 []) .clearAngle ∧ (∀ t, (asked live 0x19 []).angle.state ≠ .fault t) := by
  refine ⟨by decide, rfl, ⟨⟨rfl, rfl⟩, rfl⟩, ⟨rfl, rfl⟩, ?_⟩
  intro t h
  cases h

/-- CPR at both its ends; a position CPR − 1 and CPR from the reference. -/
theorem test_hyps_WrapReferenceAndAngleStayNear :
    (256 ≤ { stand with cpr := 256 }.cpr ∧ { stand with cpr := 65536 }.cpr ≤ 65536) ∧
    (signedDiff (43010 + 1023) track.reference).natAbs < stand.cpr ∧
    stand.cpr ≤ (signedDiff (43010 - 1024) track.reference).natAbs ∧ 1 ≤ stand.cpr := by decide

/-- R45: a revolution speed of −3994 with 1600 sets counted is pulled down to 3840 in reverse; a part with a source and one
without; each state and mode; and each turn of a set. -/
theorem test_hyps_RevolutionsAreCountedAndTimed :
    track.revSpeed = none ∧ (line.stand = some stand ∧ line.source = some stream) ∧ live.stand = none ∧
    live.angle.state = .noReference ∧ stand.mode = .index ∧ { stand with mode := .wrap }.mode = .wrap ∧
    line.angle.state = .locked track ∧ (moveSteps stand track 43011 (some 43011)).1.consecutive ≠ 3 ∧
    (∀ turn ∈ [Turn.none, .closed .capture, .slipped .threshold],
      (countingStep 25600 (angleStep stand track 43700) turn).1.angle16 = some 44160) ∧
    shaftSpeedOf 25600 { track with revSpeed := some (-3994), current := 1600, direction := .reverse } = some (-3840) := by
  decide

/-! ## Statements about the tables have cases -/

theorem test_hyps_TableRequestsCheckAndWrite :
    (asked live 0x01 [64, 16, 32, 8, 16]).takes (request 0x01 [64, 16, 32, 8, 16])
      (.bind { v := 64, p := 16, s := 32, o := 8, k := 16 }) ∧
    (asked live 0x20 { stand with cpr := 255 }.bytes).takes (request 0x20 { stand with cpr := 255 }.bytes)
      (.loadStand none) ∧
    (asked live 0x20 stand.bytes).takes (request 0x20 stand.bytes) (.loadStand (some stand)) ∧
    (live.tables = none ∧ line.tables = some tables) ∧
    (∀ s ∈ [live, line], (asked s 0x21 (enc1 0 ++ variant.bytes)).takes (request 0x21 (enc1 0 ++ variant.bytes))
      (.loadVariant 0 (some variant))) ∧
    (asked line 0x21 (enc1 0 ++ { variant with id := 0 }.bytes)).takes
      (request 0x21 (enc1 0 ++ { variant with id := 0 }.bytes)) (.loadVariant 0 none) ∧
    (∀ s ∈ [live, line], (asked s 0x22 (enc1 0 ++ encList Segment.bytes [segment])).takes
      (request 0x22 (enc1 0 ++ encList Segment.bytes [segment])) (.loadProfile 0 (some [segment]))) ∧
    (asked line 0x22 (enc1 0 ++ encList Segment.bytes [{ segment with hold := 99 }])).takes
      (request 0x22 (enc1 0 ++ encList Segment.bytes [{ segment with hold := 99 }])) (.loadProfile 0 none) ∧
    (∀ s ∈ [live, line], (asked s 0x23 (enc1 0 ++ orderSet.bytes)).takes (request 0x23 (enc1 0 ++ orderSet.bytes))
      (.loadOrderSet 0 (some orderSet))) ∧
    (asked line 0x23 (enc1 0 ++ { orderSet with revs := 65 }.bytes)).takes
      (request 0x23 (enc1 0 ++ { orderSet with revs := 65 }.bytes)) (.loadOrderSet 0 none) := by
  simp only [List.forall_mem_cons, List.not_mem_nil, false_imp_iff, implies_true, and_true]
  refine ⟨⟨rfl, ?_⟩, ⟨rfl, ?_⟩, ⟨rfl, ?_⟩, ⟨rfl, rfl⟩, ⟨⟨rfl, ?_⟩, rfl, ?_⟩, ⟨rfl, ?_⟩, ⟨⟨rfl, ?_⟩, rfl, ?_⟩, ⟨rfl, ?_⟩,
    ⟨⟨rfl, ?_⟩, rfl, ?_⟩, rfl, ?_⟩ <;> decide +kernel

theorem test_hyps_SwapWaitsForTheWindow :
    ((asked live 0x24 [0]).takes (request 0x24 [0]) (.swapOrderSet 0) ∧ (asked live 0x24 [0]).tables = none) ∧
    ((asked line 0x24 [1]).takes (request 0x24 [1]) (.swapOrderSet 1) ∧ tables.orderSets.length ≤ 1) ∧
    ((asked line 0x24 [0]).takes (request 0x24 [0]) (.swapOrderSet 0) ∧ (asked line 0x24 [0]).tables = some tables ∧
      tables.orderSets[0]? ≠ none) :=
  ⟨⟨⟨rfl, rfl⟩, rfl⟩, ⟨⟨rfl, rfl⟩, by decide⟩, ⟨rfl, rfl⟩, rfl, by decide⟩

/-! ## Statements about units have cases -/

theorem test_hyps_AdmitChecksAndAppends :
    (asked line 0x30 (serial 5 ++ enc2 4711)).takes (request 0x30 (serial 5 ++ enc2 4711)) (.admitUnit (serial 5) 4711) ∧
    line.lookup 4711 = some (0, variant, Stats.zero) := ⟨⟨rfl, by decide +kernel⟩, rfl⟩

theorem test_hyps_AdvanceMovesOneRecord :
    (asked line 0x31 [1]).takes (request 0x31 [1]) (.advance .a) ∧
    (asked line 0x31 [2]).takes (request 0x31 [2]) (.advance .b) ∧
    (∀ x ∈ [unit 0 .bayA], x.position ≠ .transfer) ∧ (unit 1 .transfer).position = .transfer :=
  ⟨⟨rfl, rfl⟩, ⟨rfl, rfl⟩, by decide, rfl⟩

theorem test_hyps_ClosingAUnitReportsIt :
    ((asked live 0x32 []).takes (request 0x32 []) .release ∧ (asked live 0x32 []).unitAt .bayB = none) ∧
    ((asked line 0x32 []).takes (request 0x32 []) .release ∧
      (asked line 0x32 []).unitAt .bayB = some (unit 2 .bayB)) ∧
    ((asked live 0x33 (serial 1)).takes (request 0x33 (serial 1)) (.withdraw (serial 1)) ∧
      ∀ u ∈ (asked live 0x33 (serial 1)).units, u.serial ≠ serial 1) ∧
    ((asked line 0x33 (serial 1)).takes (request 0x33 (serial 1)) (.withdraw (serial 1)) ∧
      (asked line 0x33 (serial 1)).units.find? (fun x => x.serial = serial 1) = some (unit 1 .transfer)) :=
  ⟨⟨⟨rfl, rfl⟩, rfl⟩, ⟨⟨rfl, rfl⟩, rfl⟩, ⟨⟨rfl, by decide +kernel⟩, by decide⟩, ⟨rfl, by decide +kernel⟩, by decide +kernel⟩

/-- Tested below its largest value and at it; held and not. -/
theorem test_hyps_VerdictsAreCountedAndHeld :
    ({ Stats.zero with tested := 4294967294 }.tested < 4294967295) ∧
    (4294967295 ≤ { Stats.zero with tested := 4294967295 }.tested) ∧ Stats.zero.held = false ∧
    { Stats.zero with held := true }.held = true ∧
    (line.tables = some tables ∧ line.lookup (unit 2 .bayB).variantId = some (0, variant, Stats.zero)) ∧
    (asked line 0x52 [0]).takes (request 0x52 [0]) (.releaseVariant 0) ∧
    (asked line 0x51 [1]).takes (request 0x51 [1]) (.clearStats 1) ∧ live.tables = none ∧
    tables.variants.length ≤ 1 ∧ tables.variants[0]? = some { record := some variant, stats := Stats.zero } :=
  ⟨by decide, by decide, rfl, rfl, ⟨rfl, rfl⟩, ⟨rfl, rfl⟩, ⟨rfl, rfl⟩, rfl, by decide, rfl⟩

/-! ## Statements about the run-in have cases -/

/-- The line before a run-in: START_SPIN passes every check. -/
theorem test_hyps_StartSpinBeginsARunIn :
    (let s := asked line 0x40 []
     s.takes (request 0x40 []) .startSpin ∧ s.stand = some stand ∧
     s.select .torque .a = some (0, channel .torque (some .a)) ∧
     s.select .oilTemp .a = some (1, channel .oilTemp (some .a)) ∧ s.variantAtA = some variant ∧
     s.profile variant.profile = some [segment] ∧ s.unitAt .bayA = some (unit 0 .bayA)) ∧
    ((asked live 0x40 []).takes (request 0x40 []) .startSpin ∧ (asked live 0x40 []).unitAt .bayA = none) ∧
    ((spinning .ramp).runIn.run = some (spinRun .ramp) ∧ (spinRun .ramp).profile[0]? = some segment ∧
      (spinning .ramp).stand = some stand ∧ (spinning .ramp).requests.resetWait = none) ∧
    ((spinning .ramp).setRequests { live.requests with resetWait := some reset }).requests.resetWait ≠ none ∧
    (spinRun .ramp).profile[(spinRun .ramp).segment]? = some segment :=
  ⟨⟨⟨rfl, rfl⟩, rfl, rfl, rfl, rfl, rfl, rfl⟩, ⟨⟨rfl, rfl⟩, rfl⟩, ⟨rfl, rfl, rfl, rfl⟩, by decide, rfl⟩

/-- A value that channel `c` publishes. -/
def value (c : Nat) (x : Int) : Published :=
  { channel := c, role := .torque, bay := some .a, raw := x, value := x, clipped := false, filled := false }

/-- The first torque beyond the limit of 300 in HOLD is recorded and fails the run-in; one at the limit does not. -/
theorem test_torque_limit :
    (takeTorque (spinning .hold) (spinRun .hold) (-301)).runIn.run.map SpinRun.pending = some (some (.fail .torque)) ∧
    (takeTorque (spinning .hold) (spinRun .hold) (-300)).runIn.run.map (fun r => r.acc.torqueSum) = some (-300) := by decide

/-- Every phase; torque and oil temperature at their limits and beyond; a speed in tolerance and out of it; the speed
error at its persist and 1 ms before it. -/
theorem test_hyps_AnOutcomeStopsTheRunIn :
    ((value 0 300).channel = (spinRun .hold).torqueChannel ∧ (value 0 300).value.natAbs ≤ segment.torqueLimit ∧
      segment.torqueLimit < (value 0 (-301)).value.natAbs) ∧
    ((value 1 9000).channel = (spinRun .hold).oilChannel ∧ (value 1 9000).channel ≠ (spinRun .hold).torqueChannel ∧
      (value 1 9000).value ≤ variant.oilLimit ∧ variant.oilLimit < (value 1 9001).value) ∧
    ((value 4 0).channel ≠ (spinRun .hold).torqueChannel ∧ (value 4 0).channel ≠ (spinRun .hold).oilChannel) ∧
    ((spinning .hold).runIn.run = some (spinRun .hold) ∧ (spinning .hold).stand = some stand ∧
      (spinRun .hold).profile[(spinRun .hold).segment]? = some segment ∧ (spinRun .ramp).phase ≠ .hold) ∧
    line.runIn.run = none ∧
    (∀ p ∈ [SpinPhase.ramp, .settle, .hold], (asked (spinning p) 0x41 []).oldest = some (request 0x41 []) ∧
      (asked (spinning p) 0x41 []).stand = some stand ∧ (asked (spinning p) 0x41 []).runIn.run = some (spinRun p) ∧
      p.supervised = true) ∧
    (∀ p ∈ [SpinPhase.stopping, .faulted], (asked (spinning p) 0x41 []).oldest = some (request 0x41 []) ∧
      (asked (spinning p) 0x41 []).runIn.run = some (spinRun p) ∧ p.supervised = false) ∧
    (request 0x41 []).form = .ok .abortSpin ∧
    ((asked line 0x41 []).takes (request 0x41 []) .abortSpin ∧ (asked line 0x41 []).runIn.run = none) ∧
    (spinning .hold).pins.resetHeld = false ∧ (spinRun .hold).errorStart = some 0 ∧
    variant.speedPersist ≤ elapsed (clock (spinning .hold) 500).timeBase 0 ∧
    elapsed (clock (spinning .hold) 499).timeBase 0 < variant.speedPersist :=
  ⟨by decide, by decide, by decide, by decide, rfl, by decide, by decide, rfl, ⟨⟨rfl, rfl⟩, rfl⟩, rfl, rfl, by decide,
    by decide⟩

theorem test_hyps_GuardEdgesAreRaisedAndAbort :
    (spinning .hold).pins.resetHeld = false ∧ (spinning .hold).ring.port ≠ .bypass ∧
    false = (spinning .hold).pins.guardLow ∧ true ≠ (spinning .hold).pins.guardLow ∧
    (let s := (spinning .hold).setPins { (spinning .hold).pins with guardLow := true }
     false ≠ s.pins.guardLow) ∧
    (spinRun .stopping).phase.supervised = false ∧ (spinning .hold).runIn.run = some (spinRun .hold) ∧
    (spinRun .hold).phase.supervised = true ∧ (spinning .hold).stand = some stand := by decide

/-- Each phase at its time and 1 ms before it; each answer of the Order Engine. -/
theorem test_hyps_PhasesEndInOrder :
    (spinning .ramp).pins.resetHeld = false ∧ (spinRun .ramp).profile[(spinRun .ramp).segment]? = some segment ∧
    segment.ramp ≤ elapsed (clock (spinning .ramp) 2000).timeBase (spinRun .ramp).phaseStart ∧
    segment.settle ≤ elapsed (clock (spinning .settle) 1000).timeBase (spinRun .settle).phaseStart ∧
    segment.hold ≤ elapsed (clock (spinning .hold) 5000).timeBase (spinRun .hold).phaseStart ∧
    elapsed (clock (spinning .ramp) 1999).timeBase (spinRun .ramp).phaseStart < segment.ramp ∧
    elapsed (clock (spinning .settle) 999).timeBase (spinRun .settle).phaseStart < segment.settle ∧
    elapsed (clock (spinning .hold) 4999).timeBase (spinRun .hold).phaseStart < segment.hold ∧
    { spinRun .hold with profile := [segment, segment] }.segment + 1 < [segment, segment].length ∧
    (spinRun .hold).profile.length ≤ (spinRun .hold).segment + 1 ∧ (spinning .settle).angle.state = .locked track ∧
    { segment with slot := none }.slot = none ∧ segment.slot = some 0 ∧ (spinning .settle).activeSet 0 = some orderSet ∧
    (spinning .settle).activeSet 1 = none ∧ (spinning .settle).variantAtA = some variant ∧
    (∀ base, { orderSet.orders.headD { base := .direct, harmonic := 1, direct := 1, curve := [] } with
      base := base }.base = base) ∧ 0 < variant.ringTeeth ∧
    channelEntry (line.setChannels [channel .vibration (some .a)]) 0 = .included ∧
    (∀ t, live.angle.state ≠ .locked t) := by
  refine ⟨rfl, rfl, by decide, by decide, by decide, by decide, by decide, by decide, by decide, by decide, rfl, rfl, rfl,
    rfl, rfl, rfl, fun _ => rfl, by decide, by decide, ?_⟩
  intro t h
  cases h

/-- STOPPING at 100 ms and 99 ms, at its stop timeout, FAULTED, and the refresh period and 1 ms before it. -/
theorem test_hyps_StoppingEndsOrFaults :
    (let s := clock (spinning .stopping) 100
     s.runIn.run = some (spinRun .stopping) ∧ s.stand = some stand ∧ (spinRun .stopping).pending = some .pass ∧
     100 ≤ elapsed s.timeBase (spinRun .stopping).phaseStart ∧ s.angle.standstill = true ∧ s.pins.resetHeld = false) ∧
    elapsed (clock (spinning .stopping) 99).timeBase (spinRun .stopping).phaseStart < 100 ∧
    stand.stopTimeout ≤ elapsed (clock (spinning .stopping) 10000).timeBase (spinRun .stopping).phaseStart ∧
    elapsed (clock (spinning .stopping) 9999).timeBase (spinRun .stopping).phaseStart < stand.stopTimeout ∧
    ((asked (spinning .faulted) 0x42 [1]).takes (request 0x42 [1]) (.clearFault .a) ∧
      (asked (spinning .faulted) 0x42 [1]).runIn.run = some (spinRun .faulted)) ∧
    (asked line 0x42 [1]).takes (request 0x42 [1]) (.clearFault .a) ∧ (asked line 0x42 [1]).runIn.run = none ∧
    (let s := clock (spinning .ramp) 50
     s.runIn.lastCommand = some drive ∧ s.runIn.refreshStart = some 0 ∧ s.requests.resetWait = none ∧
     stand.refresh ≤ elapsed s.timeBase 0) ∧
    elapsed (clock (spinning .ramp) 49).timeBase 0 < stand.refresh :=
  ⟨by decide, by decide, by decide, by decide, ⟨⟨rfl, rfl⟩, rfl⟩, ⟨rfl, rfl⟩, rfl, by decide, by decide⟩

/-! ## Statements about order analysis have cases -/

/-- The ends of a curve's span, and its last point. -/
theorem test_hyps_AmplitudeAndLimitAreWhatTheyShouldBe :
    curve ≠ [] ∧ increasing curve = true ∧ (∀ p ∈ curve, 9600 ≤ p.limit ∧ p.limit ≤ 14400) ∧
    ({ speed := 2400, limit := 9600 } : CurvePoint).speed ≤ 2400 ∧
    4799 < ({ speed := 4800, limit := 14400 } : CurvePoint).speed ∧
    2400 ≤ ({ speed := 2400, limit := 9600 } : CurvePoint).speed ∧
    increasing ([{ speed := 2400, limit := 9600 }] ++ [{ speed := 4800, limit := 14400 }]) = true ∧
    ({ speed := 4800, limit := 14400 } : CurvePoint).speed ≤ 4800 := by decide

def window : Window :=
  { segment := 0, slot := 0, orderValues := [11 * 65536], channels := [(4, .included)], validBlocks := 0,
    pairs := [[PairCount.zero]], block := some (Block.begun 1 1) }

def published : Published :=
  { channel := 4, role := .vibration, bay := some .a, raw := 100, value := 100, clipped := false, filled := false }

/-- R111: the angle record that brings N to 4194304 closes the block as LONG, and an open window's pair counts it. -/
theorem test_long_block :
    let b : Block := { Block.begun 1 1 with n := 4194303 }
    let u := { window with block := some b }.record orderSet 25600
      { angle16 := 0, filled := false, direction := .forward } [published]
    u.block = none ∧ u.validBlocks = 0 ∧ u.pairs = [[{ PairCount.zero with invalid := 1 }]] := by decide

theorem test_hyps_BlocksGatherRevolutionsAndRecords :
    (let s := line.setEngine { line.engine with window := some window }
     line.engine.window = none ∧ s.engine.window = some window ∧ s.activeSet window.slot = some orderSet) ∧
    window.pairs[0]? = some [PairCount.zero] ∧
    ¬({ Block.begun 1 1 with n := 4194303 } : Block).n + 1 < 4194304 ∧
    { window with block := none }.block = none ∧ window.block = some (Block.begun 1 1) ∧
    ({ Block.begun 1 1 with n := 4194302 } : Block).n + 1 < 4194304 ∧ window.orderValues[0]? = some (11 * 65536) ∧
    (Block.begun 1 1).sums[0]? = some [(0, 0)] ∧ window.channels[0]? = some (4, .included) ∧ window.block ≠ none := by
  decide

def finding : Finding :=
  { segment := 0, order := 0, channel := 4, valid := 0, fail := 0, invalid := 0, worst := none, verdict := .fewBlocks }

/-- A marked block and an unmarked one, whose order is ABOVE_BAND at N = 704 and judged at 705 (with B = 32); 47 findings
and 48, and one offered to them that stands lower and one that does not; a swap pending on the slot in a window and
none. -/
theorem test_hyps_WindowsCloseIntoFindings :
    blockMark 20 (blockSpeed 25600 2 (Block.begun 1 1)) false (Block.begun 1 1) ≠ none ∧
    blockMark 20 (blockSpeed 25600 2 { Block.begun 1 1 with n := 64 }) false { Block.begun 1 1 with n := 64 } = none ∧
    window.pairs[0]? = some [PairCount.zero] ∧ window.channels[0]? = some (4, .included) ∧
    (let s := line.setEngine { line.engine with window := some window }
     s.engine.window = some window ∧ s.activeSet window.slot = some orderSet ∧
     s.orderSlot window.slot = some { active := some orderSet, shadow := some orderSet, swapPending := false } ∧
     (updateSlot s 0 (fun o => { o with swapPending := true })).orderSlot window.slot =
       some { active := some orderSet, shadow := some orderSet, swapPending := true }) ∧
    { unit 0 .bayA with findings := List.replicate 47 finding }.findings.length < 48 ∧
    { unit 0 .bayA with findings := List.replicate 48 finding }.findings.length = 48 ∧
    (window.orderValues[0]? = some 720896 ∧ (orderSet.orders[0]?).isSome = true ∧
      (Block.begun 1 1).sums[0]? = some [(0, 0)] ∧ 704 * 65536 ≤ 2 * 720896 * 32 ∧
      ¬705 * 65536 ≤ 2 * 720896 * 32) ∧
    (∀ w : Worst, standsLower { finding with worst := some w }.margin finding.margin = true) ∧
    standsLower finding.margin finding.margin = false :=
  ⟨by decide, by decide, rfl, rfl, ⟨rfl, rfl, rfl, rfl⟩, by decide, by decide, by decide, fun _ => rfl, rfl⟩

/-- R117: a finding with an amplitude takes the place of the front one of 48 without. -/
theorem test_full_findings_list :
    let w : Worst := { a := 1, l := 2, v := 3, margin := 1 }
    let u := offerFinding { unit 0 .bayA with findings := { finding with order := 1 } :: List.replicate 47 finding }
      { finding with worst := some w }
    u.findings = List.replicate 47 finding ++ [{ finding with worst := some w }] ∧ u.truncated = true := by decide

/-! ## Statements about leak testing have cases -/

theorem test_hyps_StartLeakBeginsInFill :
    ((asked live 0x48 []).takes (request 0x48 []) .startLeak ∧ (asked live 0x48 []).unitAt .bayB = none) ∧
    (let s := asked line 0x48 []
     s.takes (request 0x48 []) .startLeak ∧ s.unitAt .bayB = some (unit 2 .bayB) ∧
     s.lookup (unit 2 .bayB).variantId = some (0, variant, Stats.zero) ∧ s.leak.run = none ∧ s.stand = some stand ∧
     s.select .pressure .b = some (2, channel .pressure (some .b)) ∧ (unit 2 .bayB).leak = .notRun) ∧
    (asked (leaking .vent) 0x48 []).takes (request 0x48 []) .startLeak ∧ (leaking .vent).leak.run ≠ none :=
  ⟨⟨⟨rfl, rfl⟩, rfl⟩, ⟨⟨rfl, rfl⟩, rfl, rfl, rfl, rfl, rfl, rfl⟩, ⟨rfl, rfl⟩, by decide⟩

/-- Every phase for ABORT_LEAK; each timer at its time and 1 ms before it; with pressures taken and without. -/
theorem test_hyps_LeakPhasesEnd :
    (∀ p ∈ [LeakPhase.fill, .settle, .measure], (asked (leaking p) 0x49 []).oldest = some (request 0x49 []) ∧
      (leaking p).leak.run = some (leakRun p) ∧ p.testing = true) ∧
    (∀ p ∈ [LeakPhase.vent, .faulted], (asked (leaking p) 0x49 []).oldest = some (request 0x49 []) ∧
      (leaking p).leak.run = some (leakRun p) ∧ p.testing = false) ∧
    (request 0x49 []).form = .ok .abortLeak ∧
    ((asked line 0x49 []).takes (request 0x49 []) .abortLeak ∧ (asked line 0x49 []).leak.run = none) ∧
    (leaking .fill).pins.resetHeld = false ∧ (leaking .fill).stand = some stand ∧
    variant.fillTimeout ≤ elapsed (clock (leaking .fill) 30000).timeBase (leakRun .fill).phaseStart ∧
    variant.settleTime ≤ elapsed (clock (leaking .settle) 15000).timeBase (leakRun .settle).phaseStart ∧
    variant.measureTime ≤ elapsed (clock (leaking .measure) 20000).timeBase (leakRun .measure).phaseStart ∧
    elapsed (clock (leaking .fill) 29999).timeBase (leakRun .fill).phaseStart < variant.fillTimeout ∧
    elapsed (clock (leaking .settle) 14999).timeBase (leakRun .settle).phaseStart < variant.settleTime ∧
    elapsed (clock (leaking .measure) 19999).timeBase (leakRun .measure).phaseStart < variant.measureTime ∧
    (leaking .measure).leak.count = 0 ∧ { (leaking .measure).leak with count := 1 }.count ≠ 0 ∧
    (leaking .measure).unitAt .bayB = some (unit 2 .bayB) ∧ (leakRun .measure).ambient = some 2300 ∧
    (leakRun .measure).tMs = some 0 :=
  ⟨by decide, by decide, rfl, ⟨⟨rfl, rfl⟩, rfl⟩, rfl, rfl, by decide, by decide, by decide, by decide, by decide,
    by decide, rfl, by decide, rfl, rfl, rfl⟩

/-- The pressures at the ends of each state's ranges, for target 40000, band 500 and vent threshold 500. -/
theorem test_hyps_PressuresAreJudgedByTheState :
    (∀ p, (leaking p).stand = some stand ∧ (leaking p).leak.run = some (leakRun p)) ∧
    (let target : Int := variant.targetPressure
     let band : Int := variant.fillBand
     target + band < 40501 ∧ target - band ≤ 39500 ∧ (40500 : Int) ≤ target + band ∧ (39499 : Int) < target - band ∧
     (38999 : Int) < target - 2 * band ∧ target - 2 * band ≤ 39000) ∧
    variant.settleTime ≠ 0 ∧ { variant with settleTime := 0 }.settleTime = 0 ∧
    ((value 2 39500).channel = (leakRun .fill).channel ∧ (value 4 39500).channel ≠ (leakRun .fill).channel) ∧
    (500 : Int) ≤ stand.ventThreshold ∧ (stand.ventThreshold : Int) < 501 ∧ (leakRun .vent).pending = some .pass := by
  refine ⟨fun p => ⟨rfl, rfl⟩, ?_⟩
  decide

theorem test_hyps_VentingEndsOrFaults :
    (let s := clock (leaking .vent) 10000
     s.pins.resetHeld = false ∧ s.leak.run = some (leakRun .vent) ∧ s.stand = some stand ∧
     (leakRun .vent).pending = some .pass ∧ stand.ventTimeout ≤ elapsed s.timeBase (leakRun .vent).phaseStart) ∧
    elapsed (clock (leaking .vent) 9999).timeBase (leakRun .vent).phaseStart < stand.ventTimeout ∧
    ((asked (leaking .faulted) 0x42 [2]).takes (request 0x42 [2]) (.clearFault .b) ∧
      (asked (leaking .faulted) 0x42 [2]).leak.run = some (leakRun .faulted) ∧
      (asked (leaking .faulted) 0x42 [2]).leak.suppressed = false) ∧
    ((asked line 0x42 [2]).takes (request 0x42 [2]) (.clearFault .b) ∧ (asked line 0x42 [2]).leak.run = none) ∧
    (let s := clock (leaking .vent) 50
     s.leak.lastCommand = some .vent ∧ s.leak.refreshStart = some 0 ∧ s.leak.suppressed = false ∧
     stand.refresh ≤ elapsed s.timeBase 0) ∧
    elapsed (clock (leaking .vent) 49).timeBase 0 < stand.refresh :=
  ⟨by decide, by decide, ⟨⟨rfl, rfl⟩, rfl, rfl⟩, ⟨⟨rfl, rfl⟩, rfl⟩, by decide, by decide⟩

/-- The smallest atmospheric pressure, measure time and cooling time constant. -/
theorem test_hyps_LeakResultIsComputedAndBounded :
    80000 ≤ { stand with patm := 80000 }.patm ∧ 1000 ≤ { variant with measureTime := 1000 }.measureTime ∧
    60000 ≤ { variant with coolingSpan := 60000 }.coolingSpan := by decide

/-! ## The invariants hold of a busy part -/

theorem test_hyps_EveryStepKeepsBoundsAndUnitList :
    (spinning .hold).Bounded ∧ (spinning .hold).LineSound ∧ (∃ t, step (spinning .hold) = .next t) := by
  refine ⟨?_, ?_, _, rfl⟩ <;> constructor <;> decide

theorem test_hyps_EveryStepKeepsTheStatisticsSound : line.StatsSound := by
  intro t h
  cases h
  intro slot h
  simp only [tables, List.mem_singleton] at h
  subst h
  constructor <;> decide

theorem test_hyps_EveryStepKeepsTheAngleSound : line.AngleSound := by
  constructor
  · intro st h
    cases h
    decide
  · decide
  · decide
  · intro t h
    cases h
    exact ⟨by decide, ⟨by decide, by decide, fun _ h => (by cases h), fun _ h => (by cases h)⟩⟩
  · intro t h
    cases h

theorem test_hyps_EveryStepKeepsTheDriveSafe : (spinning .hold).DriveSound := by
  constructor
  · decide
  · intro h
    cases h
  · intro c h _
    exact ⟨rfl, _, rfl, rfl⟩
  · intro n c h
    cases h

theorem test_hyps_EveryStepKeepsTheValvesSafe : (leaking .vent).ValveSound := by
  constructor
  · decide
  · intro h
    cases h
  · rfl
  · intro h
    cases h
  · intro h
    cases h
  · intro h
    cases h
  · intro n c h
    cases h

end Sys2Proof.Tests
end

section
/-! No job takes a sequencer out of IDLE: one lemma per operation of Laws/Jobs.lean, beside its `JobStep`.  An operation
that may end a job has `≤`, every other `=`. -/
namespace Sys2Proof.Machine

/-! ## Whether a sequencer is outside IDLE -/

/-- Whether the Run-in Sequencer and the Leak Sequencer are outside IDLE. -/
def State.working (s : State) : Bool × Bool := (s.runIn.run.isSome, s.leak.run.isSome)

@[simp] theorem State.setRunIn_working (s : State) (x : RunIn) (h : x.run.isSome = s.runIn.run.isSome) :
    (s.setRunIn x).working = s.working := by simp [State.working, h]

@[simp] theorem State.setLeak_working (s : State) (x : Leak) (h : x.run.isSome = s.leak.run.isSome) :
    (s.setLeak x).working = s.working := by simp [State.working, h]

@[simp] theorem State.setFreeCount_working (s : State) (n : Nat) : (s.setFreeCount n).working = s.working := rfl

@[simp] theorem raise_working (s : State) (src : Source) (bay : Option Bay) (serial : Option Serial) (d : Detail) :
    (raise s src bay serial d).working = s.working := rfl

@[simp] theorem updateUnit_working (s : State) (p : Position) (f : UnitRecord → UnitRecord) :
    (updateUnit s p f).working = s.working := rfl

@[simp] theorem updateChannel_working (s : State) (c : Nat) (f : Channel → Channel) :
    (updateChannel s c f).working = s.working := rfl

@[simp] theorem updateSlot_working (s : State) (n : Nat) (f : OrderSlot → OrderSlot) :
    (updateSlot s n f).working = s.working := by
  unfold updateSlot; split <;> rfl

@[simp] theorem carryOutSwap_working (s : State) (n : Nat) (bay : Option Bay) (serial : Option Serial) :
    (carryOutSwap s n bay serial).working = s.working := by simp [carryOutSwap]

/-! ### The Order Engine -/

@[simp] theorem State.setEngine_working (s : State) (x : Engine) : (s.setEngine x).working = s.working := rfl

@[simp] theorem openWindow_working (s : State) (g : Nat) (slot : Option Nat) :
    (openWindow s g slot).2.working = s.working := by
  unfold openWindow; repeat' split
  all_goals rfl

@[simp] theorem withWindow_working (s : State) (f : Window → OrderSet → Nat → Window) :
    (withWindow s f).working = s.working := by
  unfold withWindow; repeat' split
  all_goals rfl

@[simp] theorem engineBreak_working (s : State) : (engineBreak s).working = s.working := by
  unfold engineBreak; split <;> rfl

@[simp] theorem engineWithdraw_working (s : State) (c : Nat) : (engineWithdraw s c).working = s.working := by
  unfold engineWithdraw; split <;> rfl

@[simp] theorem closeWindow_working (s : State) : (closeWindow s).2.working = s.working := by
  obtain ⟨-, -, hleak, hrun, -, -⟩ := closeWindow_frame s
  simp [State.working, hleak, hrun]

/-! ### The Run-in Sequencer -/

@[simp] theorem placeDrive_working (s : State) (c : DriveCommand) : (placeDrive s c).working = s.working := by
  unfold placeDrive; split <;> rfl

@[simp] theorem issueDriveNow_working (s : State) (b : Bool) (v : Int) (r : Nat) (t : Int) :
    (issueDriveNow s b v r t).working = s.working := placeDrive_working _ _

@[simp] theorem issueDrive_working (s : State) (b : Bool) (v : Int) (r : Nat) (t : Int) :
    (issueDrive s b v r t).working = s.working := by
  unfold issueDrive; split <;> simp

@[simp] theorem updateRun_working (s : State) (f : SpinRun → SpinRun) : (updateRun s f).working = s.working := by
  unfold updateRun
  split
  · rfl
  · next h => simp [h]

@[simp] theorem enterStopping_working (s : State) : (enterStopping s).working = s.working := by
  unfold enterStopping; split <;> simp

@[simp] theorem takeOutcome_working (s : State) (o : RuninOutcome) : (takeOutcome s o).working = s.working := by
  unfold takeOutcome
  split
  · rfl
  · next h => dsimp only; (repeat' split) <;> simp [h]

@[simp] theorem holdEntry_working (s : State) : (holdEntry s).working = s.working := by
  unfold holdEntry; (repeat' split) <;> simp

@[simp] theorem enterSettle_working (s : State) : (enterSettle s).working = s.working := by
  unfold enterSettle; (repeat' split) <;> simp

@[simp] theorem beginSegment_working (s : State) (i : Nat) : (beginSegment s i).working = s.working := by
  unfold beginSegment; dsimp only; (repeat' split) <;> simp

@[simp] theorem endHold_working (s : State) : (endHold s).working = s.working := by
  unfold endHold; dsimp only; (repeat' split) <;> simp

@[simp] theorem takeTorque_working (s : State) (r : SpinRun) (x : Int) : (takeTorque s r x).working = s.working := by
  unfold takeTorque; dsimp only; (repeat' split) <;> simp

@[simp] theorem takeOil_working (s : State) (r : SpinRun) (x : Int) : (takeOil s r x).working = s.working := by
  unfold takeOil; dsimp only; (repeat' split) <;> simp

@[simp] theorem runInValue_working (s : State) (p : Published) : (runInValue s p).working = s.working := by
  unfold runInValue; (repeat' split) <;> simp

@[simp] theorem runInSpeed_working (s : State) (v : Option Int) : (runInSpeed s v).working = s.working := by
  unfold runInSpeed; (repeat' split) <;> simp

@[simp] theorem runInLostLock_working (s : State) : (runInLostLock s).working = s.working := updateRun_working _ _

@[simp] theorem runInStale_working (s : State) (i : Nat) (cfg : StreamConfig) :
    (runInStale s i cfg).working = s.working := by
  unfold runInStale; (repeat' split) <;> simp

@[simp] theorem runInChannelLost_working (s : State) (c : Nat) : (runInChannelLost s c).working = s.working := by
  unfold runInChannelLost; split <;> simp

@[simp] theorem writeRunin_working (s : State) (r : SpinRun) (b : Bool) : (writeRunin s r b).working = s.working := by
  unfold writeRunin; split <;> rfl

@[simp] theorem raiseRunin_working (s : State) (src : Source) (r : SpinRun) :
    (raiseRunin s src r).working = s.working := by
  unfold raiseRunin; split <;> rfl

/-- The end of STOPPING leaves the Run-in Sequencer in IDLE and the Leak Sequencer as it was (R98). -/
theorem endStopping_working (s : State) (r : SpinRun) : (endStopping s r).working = (false, s.leak.run.isSome) := by
  have h : (issueDrive (raiseRunin (if r.written then s else writeRunin s r false) .runinEnd r) false 0 0 0).working =
      s.working := by split <;> simp
  exact congrArg (fun w => (false, w.2)) h

theorem runInStandstill_working (s : State) : (runInStandstill s).working ≤ s.working := by
  unfold runInStandstill
  repeat' split
  · rfl
  · exact (endStopping_working s _).trans_le ⟨Bool.false_le _, le_rfl⟩
  · rfl

@[simp] theorem stopTimedOut_working (s : State) (r : SpinRun) : (stopTimedOut s r).working = s.working := by
  unfold stopTimedOut; split <;> simp

@[simp] theorem writeGuardTime_working (s : State) : (writeGuardTime s).working = s.working := by
  unfold writeGuardTime; split <;> rfl

@[simp] theorem guardEdge_working (s : State) (b : Bool) : (guardEdge s b).working = s.working := by
  unfold guardEdge; split <;> simp

@[simp] theorem repeatDrive_working (s : State) : (repeatDrive s).working = s.working := by
  unfold repeatDrive; (repeat' split) <;> simp

/-! ### The Leak Sequencer -/

@[simp] theorem placeValve_working (s : State) (c : ValveCommand) : (placeValve s c).working = s.working := by
  unfold placeValve; split <;> rfl

@[simp] theorem issueValve_working (s : State) (k : ValveKind) : (issueValve s k).working = s.working := by
  unfold issueValve; split <;> simp

@[simp] theorem repeatValve_working (s : State) : (repeatValve s).working = s.working := by
  unfold repeatValve; (repeat' split) <;> simp

@[simp] theorem updateTest_working (s : State) (f : LeakRun → LeakRun) : (updateTest s f).working = s.working := by
  unfold updateTest
  split
  · rfl
  · next h => simp [h]

@[simp] theorem takeLeakOutcome_working (s : State) (o : LeakOutcome) (r : Option LeakResult) :
    (takeLeakOutcome s o r).working = s.working := by
  unfold takeLeakOutcome; (repeat' split) <;> simp [enterPhase]

@[simp] theorem enterMeasure_working (s : State) : (enterMeasure s).working = s.working := by
  unfold enterMeasure
  split
  · rfl
  · next h => simp [h]

@[simp] theorem enterLeakSettle_working (s : State) : (enterLeakSettle s).working = s.working := by
  unfold enterLeakSettle; dsimp only; (repeat' split) <;> simp [enterPhase]

@[simp] theorem endMeasure_working (s : State) : (endMeasure s).working = s.working := by
  unfold endMeasure; dsimp only; (repeat' split) <;> simp

@[simp] theorem writeLeak_working (s : State) (r : LeakRun) : (writeLeak s r).working = s.working := by
  unfold writeLeak; split <;> rfl

@[simp] theorem raiseLeak_working (s : State) (src : Source) (r : LeakRun) :
    (raiseLeak s src r).working = s.working := by
  unfold raiseLeak; split <;> rfl

/-- The end of VENT leaves the Leak Sequencer in IDLE and the Run-in Sequencer as it was (R136). -/
theorem endVent_working (s : State) (r : LeakRun) : (endVent s r).working = (s.runIn.run.isSome, false) := by
  have h : (issueValve (raiseLeak (if r.written then s else writeLeak s r) .leakEnd r) .vent).working = s.working := by
    split <;> simp
  exact congrArg (fun w => (w.1, false)) h

theorem takePressure_working (s : State) (r : LeakRun) (x : Int) (h : s.leak.run = some r) :
    (takePressure s r x).working ≤ s.working := by
  unfold takePressure
  dsimp only
  split
  case h_1 => (repeat' split) <;> simp
  case h_2 => split <;> simp
  case h_3 => simp [h]
  case h_4 =>
    split
    · exact (endVent_working s r).trans_le ⟨le_rfl, Bool.false_le _⟩
    · exact le_rfl
  case h_5 => exact le_rfl

theorem leakValue_working (s : State) (p : Published) : (leakValue s p).working ≤ s.working := by
  unfold leakValue
  repeat' split
  · rfl
  · next h _ => exact takePressure_working s _ _ h
  · rfl

@[simp] theorem leakStale_working (s : State) (cfg : StreamConfig) : (leakStale s cfg).working = s.working := by
  unfold leakStale; (repeat' split) <;> simp

@[simp] theorem leakChannelLost_working (s : State) (c : Nat) : (leakChannelLost s c).working = s.working := by
  unfold leakChannelLost; split <;> simp

@[simp] theorem ventTimedOut_working (s : State) (r : LeakRun) : (ventTimedOut s r).working = s.working := by
  unfold ventTimedOut; split <;> simp

/-! ### Channels and the Angle Unit -/

@[simp] theorem channelLost_working (s : State) (c : Nat) : (channelLost s c).working = s.working := by
  simp [channelLost]

theorem publish_working (s : State) (p : Published) : (publish s p).working ≤ s.working :=
  (leakValue_working _ p).trans_eq (runInValue_working s p)

theorem channelValue_working (s : State) (c : Nat) (raw : Int) (filled : Bool) :
    (channelValue s c raw filled).1.working ≤ s.working := by
  unfold channelValue
  dsimp only
  repeat' split
  all_goals first
    | exact publish_working _ _
    | simp [channelFaulted]

theorem deliverValues_working (s : State) (filled : Bool) (bs : List (Option Nat)) (raws : List Int) :
    (deliverValues s filled bs raws).1.working ≤ s.working := by
  induction bs generalizing s raws with
  | nil => exact le_rfl
  | cons b bs ih =>
    cases raws with
    | nil => cases b <;> exact le_rfl
    | cons r raws =>
      cases b with
      | none => exact ih s raws
      | some c => exact (ih _ raws).trans (channelValue_working s c r filled)

@[simp] theorem channelsGone_working (s : State) (bs : List (Option Nat)) :
    (channelsGone s bs).working = s.working := by
  unfold channelsGone
  induction bs generalizing s with
  | nil => rfl
  | cons b bs ih => cases b <;> simp [ih]

@[simp] theorem State.setAngle_working (s : State) (x : Angle) : (s.setAngle x).working = s.working := rfl

@[simp] theorem finishSet_working (s : State) (st : Stand) (fs : Nat) (t : Track) (turn : Turn) (pos : Pos) (b : Bool)
    (v : List Published) : (finishSet s st fs t turn pos b v).working = s.working := by
  unfold finishSet; dsimp only; (repeat' split) <;> simp [engineRecord, engineBoundary]

@[simp] theorem angleFaults_working (s : State) (st : Stand) (t : Track) :
    (angleFaults s st t).working = s.working := by
  simp [angleFaults]

@[simp] theorem followSet_working (s : State) (st : Stand) (fs : Nat) (pos : Pos) (c : Option Pos) (b : Bool)
    (v : List Published) : (followSet s st fs pos c b v).working = s.working := by
  unfold followSet; dsimp only; (repeat' split) <;> simp

theorem angleSet_working (s : State) (pos : Pos) (c : Option Pos) (b : Bool) (v : List Published) :
    (angleSet s pos c b v).working ≤ s.working := by
  unfold angleSet
  split
  · exact (runInStandstill_working _).trans_eq (by simp)
  · exact le_rfl

@[simp] theorem loseReference_working (s : State) : (loseReference s).working = s.working := by
  unfold loseReference; split <;> simp

@[simp] theorem clearHistory_working (s : State) : (clearHistory s).working = s.working := rfl

/-! ### The Stream Intake -/

@[simp] theorem updateStreamRun_working (s : State) (i : Nat) (f : StreamRun → StreamRun) :
    (updateStreamRun s i f).working = s.working := rfl

theorem deliver_working (s : State) (i : Nat) (cfg : StreamConfig) (set : SampleSet) (b : Bool) :
    (deliver s i cfg set b).working ≤ s.working := by
  have h := deliverValues_working s b cfg.binding set.values
  unfold deliver
  dsimp only
  rw [updateStreamRun_working]
  repeat' split
  · exact (angleSet_working _ _ _ _ _).trans h
  · exact h
  · exact h

@[simp] theorem gapEvent_working (s : State) (i : Nat) : (gapEvent s i).working = s.working := by
  unfold gapEvent; split <;> simp

theorem acceptSet_working (s : State) (i : Nat) (cfg : StreamConfig) (q : Nat) (set : SampleSet) :
    (acceptSet s i cfg q set).working ≤ s.working := deliver_working _ _ _ _ _

theorem fillBefore_working (s : State) (i : Nat) (cfg : StreamConfig) (run : StreamRun) (set : SampleSet) :
    (fillBefore s i cfg run set).working ≤ s.working := by
  unfold fillBefore
  split
  · exact le_rfl
  · exact deliver_working _ _ _ _ _

theorem sequenceCheck_working (s : State) (i : Nat) (cfg : StreamConfig) (run : StreamRun) (q : Nat)
    (set : SampleSet) : (sequenceCheck s i cfg run q set).working ≤ s.working := by
  unfold sequenceCheck
  repeat' split
  · exact acceptSet_working _ _ _ _ _
  · exact acceptSet_working _ _ _ _ _
  · exact (acceptSet_working _ _ _ _ _).trans (fillBefore_working _ _ _ _ _)
  · exact le_rfl
  · exact (acceptSet_working _ _ _ _ _).trans_eq (by simp)

theorem intake_working (s : State) (i : Nat) (cfg : StreamConfig) (payload : List Byte) :
    (intake s i cfg payload).working ≤ s.working := by
  unfold intake
  repeat' split
  · exact le_rfl
  · exact le_rfl
  · exact sequenceCheck_working _ _ _ _ _ _
  · exact acceptSet_working _ _ _ _ _
  · exact acceptSet_working _ _ _ _ _

@[simp] theorem sourceGone_working (s : State) (i : Nat) (cfg : StreamConfig) :
    (sourceGone s i cfg).working = s.working := by
  unfold sourceGone; dsimp only; split <;> simp

@[simp] theorem streamGone_working (s : State) (i : Nat) (cfg : StreamConfig) :
    (streamGone s i cfg).working = s.working := by
  unfold streamGone; dsimp only; (repeat' split) <;> simp

@[simp] theorem staleExpires_working (s : State) (i : Nat) : (staleExpires s i).working = s.working := by
  unfold staleExpires; split <;> simp

end Sys2Proof.Machine
end

section
/-! The steps that leave alone what `State.Bounded` and `State.LineSound` are about. -/
namespace Sys2Proof.Machine

/-! ## The Unit List seen through its positions -/

/-- R67's arrangement, which speaks of the positions alone: from oldest to newest at most one BAY_B, then TRANSFER,
then at most one BAY_A. -/
def Arranged (ps : List Position) : Prop := ps.Pairwise (fun older newer => older ≠ .bayA ∧ newer ≠ .bayB)

theorem Arranged.count_bayA {ps : List Position} (h : Arranged ps) : ps.count .bayA ≤ 1 := by
  induction h with
  | nil => simp
  | @cons p ps hp _ ih =>
    by_cases hA : p = .bayA
    · cases ps with
      | nil => simp [hA]
      | cons q ps => exact absurd hA (hp q (by simp)).1
    · simpa [List.count_cons, hA] using ih

theorem Arranged.count_bayB {ps : List Position} (h : Arranged ps) : ps.count .bayB ≤ 1 := by
  cases h with
  | nil => simp
  | @cons p ps hp _ =>
    have h0 : ps.count .bayB = 0 := List.count_eq_zero.2 fun hB => (hp _ hB).2 rfl
    rw [List.count_cons, h0]
    split <;> omega

/-- The positions of the records, oldest first. -/
def State.positions (s : State) : List Position := s.units.map UnitRecord.position

theorem State.unitAt_isSome (s : State) (p : Position) : (s.unitAt p).isSome = true ↔ p ∈ s.positions := by
  simp [State.unitAt, State.positions]

theorem State.countAt_eq_count (s : State) (p : Position) : s.countAt p = s.positions.count p := by
  rw [State.countAt, ← List.countP_eq_length_filter, State.positions, List.count, List.countP_map]
  rfl

/-- The Unit List's shape in terms of its length, its serials and its positions; the arrangement alone leaves at most
one record at each bay. -/
theorem lineSound_iff (s : State) : s.LineSound ↔
    s.units.length ≤ 6 ∧ (s.units.map UnitRecord.serial).Nodup ∧ Arranged s.positions ∧
      (s.working.1 = true → .bayA ∈ s.positions) ∧ (s.working.2 = true → .bayB ∈ s.positions) := by
  have ha : Arranged s.positions ↔
      s.units.Pairwise (fun older newer => older.position ≠ .bayA ∧ newer.position ≠ .bayB) := List.pairwise_map
  constructor
  · intro h
    exact ⟨h.length, h.serials, ha.2 h.arrangement, fun k => (s.unitAt_isSome _).1 (h.runIn k),
      fun k => (s.unitAt_isSome _).1 (h.leak k)⟩
  · rintro ⟨hlen, hser, harr, hA, hB⟩
    exact
      { length := hlen
        serials := hser
        arrangement := ha.1 harr
        bayA := s.countAt_eq_count _ ▸ harr.count_bayA
        bayB := s.countAt_eq_count _ ▸ harr.count_bayB
        runIn := fun k => (s.unitAt_isSome _).2 (hA k)
        leak := fun k => (s.unitAt_isSome _).2 (hB k) }

/-- What is read off a record's identity is the same along lists of the same identities. -/
theorem map_of_identity {β : Type} {us vs : List UnitRecord} (g : Serial × Nat × Position × Time → β)
    (h : us.map UnitRecord.identity = vs.map UnitRecord.identity) :
    us.map (fun u => g u.identity) = vs.map (fun u => g u.identity) := by
  simpa [Function.comp_def] using congrArg (List.map g) h

theorem positions_of_identity {s t : State} (h : t.units.map UnitRecord.identity = s.units.map UnitRecord.identity) :
    t.positions = s.positions := map_of_identity (·.2.2.1) h

/-- The Unit List stays sound where its records keep their identity and no sequencer leaves IDLE. -/
theorem State.LineSound.of_identity {s t : State} (h : s.LineSound)
    (hu : t.units.map UnitRecord.identity = s.units.map UnitRecord.identity) (hw : t.working ≤ s.working) :
    t.LineSound := by
  have hs : t.units.map UnitRecord.serial = s.units.map UnitRecord.serial := map_of_identity (·.1) hu
  have hl : t.units.length = s.units.length := by simpa using congrArg List.length hu
  obtain ⟨hlen, hser, harr, hA, hB⟩ := (lineSound_iff s).1 h
  rw [lineSound_iff, hl, hs, positions_of_identity hu]
  exact ⟨hlen, hser, harr, fun k => hA (Bool.le_iff_imp.1 hw.1 k), fun k => hB (Bool.le_iff_imp.1 hw.2 k)⟩

/-! ## Quiet steps -/

/-- From `s` to `t` nothing that `State.Bounded` or `State.LineSound` speaks of has grown or moved. -/
structure QuietStep (s t : State) : Prop where
  ring : t.ring = s.ring
  requests : t.requests = s.requests
  replies : t.arbiter.replies = s.arbiter.replies
  reports : t.reports = s.reports
  streams : t.streams.length = s.streams.length
  channels : t.channels.length = s.channels.length
  records : t.notices.records.length = s.notices.records.length
  units : t.units.map UnitRecord.identity = s.units.map UnitRecord.identity
  working : t.working ≤ s.working

theorem QuietStep.refl (s : State) : QuietStep s s := by constructor <;> rfl

theorem QuietStep.of_eq {s t : State} (h : t = s) : QuietStep s t := h ▸ .refl s

theorem QuietStep.trans {s t u : State} (h : QuietStep s t) (k : QuietStep t u) : QuietStep s u :=
  ⟨k.ring.trans h.ring, k.requests.trans h.requests, k.replies.trans h.replies, k.reports.trans h.reports,
    k.streams.trans h.streams, k.channels.trans h.channels, k.records.trans h.records, k.units.trans h.units,
    k.working.trans h.working⟩

theorem QuietStep.ite {p : Prop} [Decidable p] {s a b : State} (ha : QuietStep s a) (hb : QuietStep s b) :
    QuietStep s (if p then a else b) := by split <;> assumption

theorem IntakeStep.quiet {s t : State} (h : IntakeStep s t) (hw : t.working ≤ s.working) : QuietStep s t where
  ring := h.ring
  requests := h.requests
  replies := h.replies
  reports := h.reports
  streams := by simpa using congrArg List.length h.streams
  channels := by simpa using congrArg List.length h.channels
  records := h.records
  units := h.units
  working := hw

theorem JobStep.quiet {s t : State} (h : JobStep s t) (hw : t.working = s.working) : QuietStep s t :=
  h.intake.quiet hw.le

/-- A sound state stays inside its bounds where the fields they are about stay. -/
theorem QuietStep.bounded {s t : State} (h : QuietStep s t) (hb : s.Bounded) : t.Bounded := by
  obtain ⟨hring, hreq, hrep, hrpt, hstr, hch, hrec, hu, -⟩ := h
  have hlen : t.units.length = s.units.length := by simpa using congrArg List.length hu
  constructor <;> simp only [hring, hreq, hrep, hrpt, hstr, hch, hrec, hlen]
  exacts [hb.buffer, hb.bad, hb.stripped, hb.expired, hb.discarded, hb.forwarded, hb.queue, hb.replies,
    hb.replyOfReset, hb.reports, hb.nextReport, hb.units, hb.streams, hb.channels, hb.sources]

/-! ## What a step keeps -/

/-- From `s` to `t` the capacities and the Unit List's shape are kept. -/
structure Keeps (s t : State) : Prop where
  bounded : s.Bounded → t.Bounded
  line : s.LineSound → t.LineSound

theorem Keeps.refl (s : State) : Keeps s s := ⟨id, id⟩

theorem Keeps.trans {s t u : State} (h : Keeps s t) (k : Keeps t u) : Keeps s u :=
  ⟨k.bounded ∘ h.bounded, k.line ∘ h.line⟩

theorem QuietStep.keeps {s t : State} (h : QuietStep s t) : Keeps s t :=
  ⟨h.bounded, fun hl => hl.of_identity h.units h.working⟩

/-- A step that touches neither the units nor the sequencers keeps the Unit List's shape. -/
theorem keeps_of_bounded {s t : State} (h : s.Bounded → t.Bounded) (hu : t.units = s.units)
    (hw : t.working = s.working) : Keeps s t :=
  ⟨h, fun hl => hl.of_identity (congrArg _ hu) hw.le⟩

/-- A request's effect keeps both, and leaves the Request Unit and the reply queue to the execution around it (R166). -/
structure EffectKeeps (s t : State) : Prop where
  keeps : Keeps s t
  requests : t.requests = s.requests
  replies : t.arbiter.replies = s.arbiter.replies

theorem QuietStep.effect {s t : State} (h : QuietStep s t) : EffectKeeps s t := ⟨h.keeps, h.requests, h.replies⟩

theorem EffectKeeps.trans {s t u : State} (h : EffectKeeps s t) (k : EffectKeeps t u) : EffectKeeps s u :=
  ⟨h.keeps.trans k.keeps, k.requests.trans h.requests, k.replies.trans h.replies⟩

theorem EffectKeeps.refl (s : State) : EffectKeeps s s := (QuietStep.refl s).effect

end Sys2Proof.Machine
end

section
/-! The effects of the requests (R166) and of the replayed records (R174). -/
namespace Sys2Proof.Machine

@[simp] theorem refuse_state (s : State) (c : Code) : (refuse s c).1 = s := rfl
@[simp] theorem accept_state (s : State) : (accept s).1 = s := rfl
@[simp] theorem acceptWith_state (s : State) (content : List Byte) : (acceptWith s content).1 = s := rfl

/-! ## Reads -/

theorem readChannel_state (selector number : Nat) (s : State) : (readChannel selector number s).1 = s := by
  unfold readChannel; repeat' split
  all_goals rfl

theorem readTable_state (kind : Option TableKind) (index : Nat) (s : State) : (readTable kind index s).1 = s := by
  unfold readTable; repeat' split
  all_goals rfl

theorem readUnit_state (selector ordinal : Nat) (serial : Serial) (s : State) :
    (readUnit selector ordinal serial s).1 = s := by
  unfold readUnit; repeat' split
  all_goals rfl

theorem readStats_state (slot : Nat) (s : State) : (readStats slot s).1 = s := by
  unfold readStats; repeat' split
  all_goals rfl

/-! ## Requests that leave the Unit List alone -/

theorem setTables_quiet (s : State) (x : Option Tables) : QuietStep s (s.setTables x) := { QuietStep.refl s with }
theorem setStand_quiet (s : State) (x : Option Stand) : QuietStep s (s.setStand x) := { QuietStep.refl s with }
theorem setLoader_quiet (s : State) (x : LoaderState) : QuietStep s (s.setLoader x) := { QuietStep.refl s with }
theorem setPins_quiet (s : State) (x : Pins) : QuietStep s (s.setPins x) := { QuietStep.refl s with }
theorem setTimeBase_quiet (s : State) (x : Time) : QuietStep s (s.setTimeBase x) := { QuietStep.refl s with }
theorem setPending_quiet (s : State) (x : List Instr) : QuietStep s (s.setPending x) := { QuietStep.refl s with }

theorem raise_quiet (s : State) (src : Source) (bay : Option Bay) (serial : Option Serial) (d : Detail) :
    QuietStep s (raise s src bay serial d) := (raise_jobStep s src bay serial d).quiet rfl

theorem setNotices_quiet (s : State) (x : Notices) (h : x.records.length = s.notices.records.length) :
    QuietStep s (s.setNotices x) := { QuietStep.refl s with records := h }

theorem updateChannel_quiet (s : State) (c : Nat) (f : Channel → Channel) : QuietStep s (updateChannel s c f) :=
  { QuietStep.refl s with channels := modifyAt_length f s.channels c }

theorem updateStream_quiet (s : State) (i : Nat) (f : StreamEntry → StreamEntry) : QuietStep s (updateStream s i f) :=
  { QuietStep.refl s with streams := modifyAt_length f s.streams i }

theorem bindTables_quiet (z : Sizes) (s : State) : QuietStep s (bindTables z s).1 := by
  unfold bindTables; repeat' split
  all_goals first | exact .refl s | exact setTables_quiet s _

theorem loadVariant_quiet (slot : Nat) (record : Option Variant) (s : State) :
    QuietStep s (loadVariant slot record s).1 := by
  unfold loadVariant; repeat' split
  all_goals first | exact .refl s | exact setTables_quiet s _

theorem loadProfile_quiet (p : Nat) (segments : Option (List Segment)) (s : State) :
    QuietStep s (loadProfile p segments s).1 := by
  unfold loadProfile; repeat' split
  all_goals first | exact .refl s | exact setTables_quiet s _

theorem loadOrderSet_quiet (slot : Nat) (set : Option OrderSet) (s : State) :
    QuietStep s (loadOrderSet slot set s).1 := by
  unfold loadOrderSet; repeat' split
  all_goals first | exact .refl s | exact (updateSlot_jobStep s _ _).quiet (by simp)

theorem swapOrderSet_quiet (slot : Nat) (s : State) : QuietStep s (swapOrderSet slot s).1 := by
  unfold swapOrderSet; repeat' split
  all_goals first
    | exact .refl s
    | exact (updateSlot_jobStep s _ _).quiet (by simp)
    | exact (carryOutSwap_jobStep s _ _ _).quiet (by simp)

theorem angleFieldsChange_quiet (s : State) (new : Stand) : QuietStep s (angleFieldsChange s new) := by
  unfold angleFieldsChange
  split
  · exact .refl s
  · next old _ =>
    have h : QuietStep s (if old.sameAngle new then s else loseReference s) :=
      .ite (.refl s) ((loseReference_jobStep s).quiet (by simp))
    exact .ite h (h.trans ((clearHistory_jobStep _).quiet rfl))

theorem loadStand_quiet (record : Option Stand) (s : State) : QuietStep s (loadStand record s).1 := by
  unfold loadStand; repeat' split
  all_goals first | exact .refl s | exact (angleFieldsChange_quiet s _).trans (setStand_quiet _ _)

theorem setStats_quiet (s : State) (slot : Nat) (stats : Stats) : QuietStep s (setStats s slot stats) := by
  unfold setStats; split
  · exact .refl s
  · exact setTables_quiet s _

theorem onStats_quiet (slot : Nat) (f : Stats → Stats) (s : State) : QuietStep s (onStats slot f s).1 := by
  unfold onStats; repeat' split
  all_goals first | exact .refl s | exact setStats_quiet s _ _

theorem clearNamed_length (named : BitVec 16) (i : Nat) (rs : List NoticeRecord) :
    (clearNamed named i rs).length = rs.length := by
  induction rs generalizing i with
  | nil => rfl
  | cons r rs ih => simp [clearNamed, ih]

theorem setNotice_quiet (settings : Option NoticeSettings) (s : State) : QuietStep s (setNotice settings s).1 := by
  unfold setNotice; split
  · exact .refl s
  · exact setNotices_quiet s _ rfl

theorem clearNotice_quiet (sources : BitVec 16) (s : State) : QuietStep s (clearNotice sources s).1 := by
  unfold clearNotice; split
  · exact .refl s
  · exact setNotices_quiet s _ (clearNamed_length _ _ _)

theorem loadStream_quiet (i : Nat) (config : Option StreamConfig) (s : State) :
    QuietStep s (loadStream i config s).1 := by
  unfold loadStream
  dsimp only
  repeat' split
  all_goals first
    | exact .refl s
    | exact ((streamGone_jobStep s i _).quiet (by simp)).trans (updateStream_quiet _ _ _)
    | exact updateStream_quiet s _ _

theorem loadChannel_quiet (c : Nat) (cfg : Option ChannelConfig) (s : State) : QuietStep s (loadChannel c cfg s).1 := by
  unfold loadChannel; repeat' split
  all_goals first | exact .refl s | exact updateChannel_quiet s _ _

theorem clearChannel_quiet (c : Nat) (s : State) : QuietStep s (clearChannel c s).1 := by
  unfold clearChannel; split
  · exact .refl s
  · exact updateChannel_quiet s _ _

theorem channelEnable_quiet (c : Nat) (acquire diagnose : Option Bool) (s : State) :
    QuietStep s (channelEnable c acquire diagnose s).1 := by
  unfold channelEnable
  split
  · split
    · exact .refl s
    · exact .ite ((updateChannel_quiet s c _).trans ((channelLost_jobStep _ c).quiet (by simp)))
        (updateChannel_quiet s c _)
  · exact .refl s

theorem clearAngle_quiet (s : State) : QuietStep s (clearAngle s).1 := by
  unfold clearAngle; split
  · exact (setAngle_jobStep s _).quiet rfl
  · exact .refl s

theorem abortSpin_quiet (s : State) : QuietStep s (abortSpin s).1 := by
  unfold abortSpin; split
  · exact .refl s
  · exact (takeOutcome_jobStep s _).quiet (by simp)

theorem clearFaultA_quiet (s : State) : QuietStep s (clearFaultA s).1 := by
  unfold clearFaultA; repeat' split
  all_goals first
    | exact .refl s
    | exact ((updateRun_jobStep s _).trans (issueDrive_jobStep _ _ _ _ _)).quiet (by simp)

theorem abortLeak_quiet (s : State) : QuietStep s (abortLeak s).1 := by
  unfold abortLeak; split
  · exact .refl s
  · exact (takeLeakOutcome_jobStep s _ _).quiet (by simp)

theorem clearFaultB_quiet (s : State) : QuietStep s (clearFaultB s).1 := by
  unfold clearFaultB; repeat' split
  all_goals first
    | exact .refl s
    | exact (((updateUnit_jobStep s .bayB _ (by intro u; rfl)).trans (updateTest_jobStep _ _)).trans
        (issueValve_jobStep _ _)).quiet (by simp)

/-! ## Requests that start a job -/

theorem startSpinCheck_bayA {s : State} {x : SpinStart} (h : startSpinCheck s = .ok x) : .bayA ∈ s.positions := by
  unfold startSpinCheck at h
  cases hu : s.unitAt .bayA with
  | none => simp [hu] at h
  | some u => exact (s.unitAt_isSome _).1 (by simp [hu])

theorem startLeakCheck_bayB {s : State} {x : Nat × Stand × Variant} (h : startLeakCheck s = .ok x) :
    .bayB ∈ s.positions := by
  unfold startLeakCheck at h
  cases hu : s.unitAt .bayB with
  | none => simp [hu] at h
  | some u => exact (s.unitAt_isSome _).1 (by simp [hu])

/-- A write into a record that keeps its identity, by R68. -/
theorem updateUnit_quiet (s : State) (p : Position) (f : UnitRecord → UnitRecord)
    (h : ∀ u, (f u).identity = u.identity) : QuietStep s (updateUnit s p f) := (updateUnit_jobStep s p f h).quiet rfl

/-- The Run-in Sequencer may leave IDLE with a record at BAY_A. -/
theorem setRunIn_effect (s : State) (x : RunIn) (h : .bayA ∈ s.positions) : EffectKeeps s (s.setRunIn x) :=
  ⟨⟨fun hb => { hb with }, fun hl => { hl with runIn := fun _ => (s.unitAt_isSome _).2 h }⟩, rfl, rfl⟩

/-- The Leak Sequencer may leave IDLE with a record at BAY_B. -/
theorem setLeak_effect (s : State) (x : Leak) (h : .bayB ∈ s.positions) : EffectKeeps s (s.setLeak x) :=
  ⟨⟨fun hb => { hb with }, fun hl => { hl with leak := fun _ => (s.unitAt_isSome _).2 h }⟩, rfl, rfl⟩

theorem startSpin_effect (s : State) : EffectKeeps s (startSpin s).1 := by
  unfold startSpin
  split
  · exact .refl s
  · next x h =>
    have hw : QuietStep s (updateUnit s .bayA (fun u => { u with runin := .running })) :=
      updateUnit_quiet s .bayA _ (by intro u; rfl)
    have hA := positions_of_identity hw.units ▸ startSpinCheck_bayA h
    dsimp only [accept_state]
    exact (hw.effect.trans (setRunIn_effect _ _ hA)).trans ((beginSegment_jobStep _ 0).quiet (by simp)).effect

theorem startLeak_effect (s : State) : EffectKeeps s (startLeak s).1 := by
  unfold startLeak
  split
  · exact .refl s
  · next h =>
    have hw : QuietStep s (updateUnit s .bayB UnitRecord.leakStarted) :=
      updateUnit_quiet s .bayB _ (by intro u; rfl)
    have hB := positions_of_identity hw.units ▸ startLeakCheck_bayB h
    dsimp only [accept_state]
    exact (hw.effect.trans (setLeak_effect _ _ hB)).trans ((issueValve_jobStep _ _).quiet (by simp)).effect

/-! ## Requests that change the Unit List (R70 to R77) -/

/-- New units keep the capacities if there are at most 6 of them, and the shape if they have it. -/
theorem setUnits_effect (s : State) (us : List UnitRecord) (hb : s.units.length ≤ 6 → us.length ≤ 6)
    (hl : s.LineSound → (s.setUnits us).LineSound) : EffectKeeps s (s.setUnits us) :=
  ⟨⟨fun h => { h with units := hb h.units }, hl⟩, rfl, rfl⟩

/-- A new record at BAY_A behind the others keeps the shape (R71). -/
theorem State.LineSound.append {s : State} (h : s.LineSound) (u : UnitRecord) (hu : u.position = .bayA)
    (hfree : .bayA ∉ s.positions) (hlen : s.units.length < 6) (hnew : ∀ v ∈ s.units, v.serial ≠ u.serial) :
    (s.setUnits (s.units ++ [u])).LineSound := by
  obtain ⟨-, hser, harr, hA, hB⟩ := (lineSound_iff s).1 h
  have hp : (s.setUnits (s.units ++ [u])).positions = s.positions ++ [.bayA] := by simp [State.positions, hu]
  rw [lineSound_iff, hp]
  refine ⟨by simp; omega, ?_, ?_, fun _ => by simp, fun k => by simp [hB k]⟩
  · simpa [List.nodup_append, hser] using hnew
  · refine List.pairwise_append.2 ⟨harr, by simp, fun p hpos q hq => ?_⟩
    rw [List.mem_singleton.1 hq]
    exact ⟨fun hp => hfree (hp ▸ hpos), by decide⟩

theorem admitUnit_effect (serial : Serial) (variant : Nat) (s : State) :
    EffectKeeps s (admitUnit serial variant s).1 := by
  unfold admitUnit
  repeat' split
  all_goals try exact .refl s
  next hfree hlen _ _ _ _ _ _ hnew =>
    rw [State.unitAt_isSome] at hfree
    exact setUnits_effect s _ (fun _ => by simp; omega)
      (fun hl => hl.append _ rfl hfree (by omega) (by simpa [UnitRecord.admitted] using hnew))

/-- Where a unit stands after ADVANCE A, by where it stood (R72). -/
def Position.advancedA (p : Position) : Position := if p = .bayA then .transfer else p

theorem Arranged.advancedA {ps : List Position} (h : Arranged ps) : Arranged (ps.map Position.advancedA) := by
  refine List.pairwise_map.2 (h.imp fun {o n} hon => ?_)
  revert hon
  cases o <;> cases n <;> decide

theorem advanceA_effect (s : State) : EffectKeeps s (advanceA s).1 := by
  unfold advanceA
  repeat' split
  all_goals try exact .refl s
  next _ hrun =>
    refine setUnits_effect s _ (fun h => by simpa using h) fun hl => ?_
    obtain ⟨hlen, hser, harr, -, hB⟩ := (lineSound_iff s).1 hl
    set us := s.units.map (fun u => if u.position = .bayA then { u with position := .transfer } else u) with hus
    have hp : (s.setUnits us).positions = s.positions.map Position.advancedA := by
      simp only [State.positions, State.setUnits_units, hus, List.map_map]
      refine List.map_congr_left fun u _ => ?_
      simp only [Function.comp, Position.advancedA]
      split <;> rfl
    have hs : us.map UnitRecord.serial = s.units.map UnitRecord.serial := by
      simp only [hus, List.map_map]
      refine List.map_congr_left fun u _ => ?_
      simp only [Function.comp]
      split <;> rfl
    rw [lineSound_iff, hp]
    exact ⟨by simpa [hus] using hlen, hs ▸ hser, harr.advancedA, fun k => absurd k hrun,
      fun k => List.mem_map.2 ⟨.bayB, hB k, rfl⟩⟩

/-- With BAY_B free, the first TRANSFER record is the oldest record. -/
theorem Arranged.transfer_first {us : List UnitRecord} (h : Arranged (us.map UnitRecord.position))
    (hB : .bayB ∉ us.map UnitRecord.position) (hT : .transfer ∈ us.map UnitRecord.position) :
    ∃ u rest, us = u :: rest ∧ u.position = .transfer := by
  cases us with
  | nil => simp at hT
  | cons u rest =>
    refine ⟨u, rest, rfl, ?_⟩
    obtain ⟨hu, -⟩ := List.pairwise_cons.1 h
    match hpos : u.position with
    | .transfer => rfl
    | .bayB => simp [hpos] at hB
    | .bayA =>
      have hrest : .transfer ∈ rest.map UnitRecord.position := by simpa [hpos] using hT
      exact absurd hpos (hu _ hrest).1

@[simp] theorem moveFirst_length (us : List UnitRecord) : (moveFirst us).length = us.length := by
  induction us with
  | nil => rfl
  | cons u us ih => unfold moveFirst; split <;> simp [ih]

theorem advanceB_effect (s : State) : EffectKeeps s (advanceB s).1 := by
  unfold advanceB
  repeat' split
  all_goals try exact .refl s
  next hT _ hB =>
    rw [State.unitAt_isSome] at hB
    rw [State.countAt_eq_count, List.count_eq_zero, not_not] at hT
    refine setUnits_effect s _ (fun h => by simpa using h) fun hl => ?_
    obtain ⟨hlen, hser, harr, hA, -⟩ := (lineSound_iff s).1 hl
    obtain ⟨u, rest, hus, hpos⟩ := harr.transfer_first hB hT
    have hmove : moveFirst s.units = { u with position := .bayB } :: rest := by simp [hus, moveFirst, hpos]
    have hp : s.positions = .transfer :: rest.map UnitRecord.position := by simp [State.positions, hus, hpos]
    have hp' : (s.setUnits (moveFirst s.units)).positions = .bayB :: rest.map UnitRecord.position := by
      simp [State.positions, hmove]
    rw [hp] at hB harr hA
    rw [lineSound_iff, hp']
    refine ⟨by simpa using hlen, by rw [hus] at hser; simpa [hmove] using hser, ?_, fun k => ?_, fun _ => by simp⟩
    · obtain ⟨hfirst, hrest⟩ := List.pairwise_cons.1 harr
      exact List.pairwise_cons.2 ⟨fun p h => ⟨by decide, (hfirst p h).2⟩, hrest⟩
    · simpa using hA k

/-- A record removed on which no job works keeps the shape (R75, R77). -/
theorem State.LineSound.remove {s : State} (h : s.LineSound) {u : UnitRecord} (hu : u ∈ s.units)
    (hjob : s.jobAt u.position = false) :
    (s.setUnits (s.units.filter (fun x => x.serial != u.serial))).LineSound := by
  obtain ⟨hlen, hser, harr, hA, hB⟩ := (lineSound_iff s).1 h
  have hsub : (s.units.filter (fun x => x.serial != u.serial)).Sublist s.units := List.filter_sublist
  have hstays (p : Position) (hp : p ∈ s.positions) (hne : u.position ≠ p) :
      p ∈ (s.setUnits (s.units.filter (fun x => x.serial != u.serial))).positions := by
    obtain ⟨v, hv, rfl⟩ := List.mem_map.1 hp
    refine List.mem_map_of_mem (List.mem_filter.2 ⟨hv, ?_⟩)
    simp only [bne_iff_ne, ne_eq]
    exact fun hvu => hne (congrArg _ (List.inj_on_of_nodup_map hser hu hv hvu.symm))
  rw [lineSound_iff]
  refine ⟨hsub.length_le.trans hlen, hser.sublist (hsub.map _), harr.sublist (hsub.map _), ?_, ?_⟩
  · refine fun k => hstays _ (hA k) fun hpos => ?_
    rw [hpos] at hjob
    exact Bool.false_ne_true (hjob.symm.trans k)
  · refine fun k => hstays _ (hB k) fun hpos => ?_
    rw [hpos] at hjob
    exact Bool.false_ne_true (hjob.symm.trans k)

theorem removeUnit_effect (s : State) (u : UnitRecord) (bay : Option Bay) (v : Verdict) (hu : u ∈ s.units)
    (hjob : s.jobAt u.position = false) : EffectKeeps s (removeUnit s u bay v) :=
  (setUnits_effect s _ (fun h => (List.length_filter_le _ _).trans h) (fun hl => hl.remove hu hjob)).trans
    (raise_quiet _ _ _ _ _).effect

/-- A report joins a Report Queue that has room (R149, R150). -/
theorem formReport_effect (s : State) (u : UnitRecord) (v : Verdict) (basis required : Checks)
    (h : s.reports.reports.length < 4) : EffectKeeps s (formReport s u v basis required) :=
  ⟨keeps_of_bounded (fun hb => { hb with
      reports := by simp only [formReport, State.setReports_reports, List.length_append, List.length_singleton]; omega
      nextReport := Nat.mod_lt _ (by decide) }) rfl rfl, rfl, rfl⟩

/-- The statistics of a RELEASE touch the tables and the notices alone (R143 to R145). -/
theorem releaseStats_frame (s : State) (u : UnitRecord) (v : Verdict) :
    QuietStep s (releaseStats s u v) ∧ (releaseStats s u v).units = s.units ∧
      (releaseStats s u v).runIn = s.runIn ∧ (releaseStats s u v).leak = s.leak := by
  have hset (slot : Nat) (x : Stats) : (setStats s slot x).units = s.units ∧ (setStats s slot x).runIn = s.runIn ∧
      (setStats s slot x).leak = s.leak := by
    unfold setStats; split <;> exact ⟨rfl, rfl, rfl⟩
  unfold releaseStats
  split
  · exact ⟨.refl s, rfl, rfl, rfl⟩
  · dsimp only
    split
    · exact ⟨(setStats_quiet s _ _).trans (raise_quiet _ _ _ _ _), hset _ _⟩
    · exact ⟨setStats_quiet s _ _, hset _ _⟩

theorem release_effect (s : State) : EffectKeeps s (release s).1 := by
  unfold release
  split
  · exact .refl s
  · next u hu =>
    repeat' split
    all_goals try exact .refl s
    next hleak hroom =>
      obtain ⟨hquiet, hunits, -, hlk⟩ := releaseStats_frame s u (verdictOf u (s.requiredOf u)).1
      have hmem : u ∈ s.units := List.mem_of_find?_eq_some hu
      have hpos : u.position = .bayB := by simpa using List.find?_some hu
      refine (hquiet.effect.trans (formReport_effect _ _ _ _ _ ?_)).trans (removeUnit_effect _ _ _ _ ?_ ?_)
      · rw [hquiet.reports]; omega
      · exact hunits ▸ hmem
      · simpa [hpos, State.jobAt, formReport, hlk] using hleak

theorem withdraw_effect (serial : Serial) (s : State) : EffectKeeps s (withdraw serial s).1 := by
  unfold withdraw
  split
  · exact .refl s
  · next u hu =>
    repeat' split
    all_goals try exact .refl s
    next hjob hroom =>
      exact (formReport_effect s _ _ _ _ (by omega)).trans
        (removeUnit_effect _ _ _ _ (List.mem_of_find?_eq_some hu) (Bool.eq_false_iff.2 hjob))

/-! ## Every request -/

/-- The effect of every request but RESET keeps the capacities and the Unit List's shape. -/
theorem effectOf_effect (s : State) : ∀ (r : Req) (effect : State → State × Answer), effectOf r = some effect →
    EffectKeeps s (effect s).1
  | .bind _, _, rfl => (bindTables_quiet _ s).effect
  | .readStatus, _, rfl => .refl s
  | .setNotice _, _, rfl => (setNotice_quiet _ s).effect
  | .clearNotice _, _, rfl => (clearNotice_quiet _ s).effect
  | .loadStream _ _, _, rfl => (loadStream_quiet _ _ s).effect
  | .loadChannel _ _, _, rfl => (loadChannel_quiet _ _ s).effect
  | .channelEnable _ _ _, _, rfl => (channelEnable_quiet _ _ _ s).effect
  | .clearChannel _, _, rfl => (clearChannel_quiet _ s).effect
  | .readChannel _ _, _, rfl => (QuietStep.of_eq (readChannel_state _ _ s)).effect
  | .readAngle, _, rfl => .refl s
  | .clearAngle, _, rfl => (clearAngle_quiet s).effect
  | .loadStand _, _, rfl => (loadStand_quiet _ s).effect
  | .loadVariant _ _, _, rfl => (loadVariant_quiet _ _ s).effect
  | .loadProfile _ _, _, rfl => (loadProfile_quiet _ _ s).effect
  | .loadOrderSet _ _, _, rfl => (loadOrderSet_quiet _ _ s).effect
  | .swapOrderSet _, _, rfl => (swapOrderSet_quiet _ s).effect
  | .readTable _ _, _, rfl => (QuietStep.of_eq (readTable_state _ _ s)).effect
  | .admitUnit _ _, _, rfl => admitUnit_effect _ _ s
  | .advance .a, _, rfl => advanceA_effect s
  | .advance .b, _, rfl => advanceB_effect s
  | .release, _, rfl => release_effect s
  | .withdraw _, _, rfl => withdraw_effect _ s
  | .readUnit _ _ _, _, rfl => (QuietStep.of_eq (readUnit_state _ _ _ s)).effect
  | .startSpin, _, rfl => startSpin_effect s
  | .abortSpin, _, rfl => (abortSpin_quiet s).effect
  | .clearFault .a, _, rfl => (clearFaultA_quiet s).effect
  | .clearFault .b, _, rfl => (clearFaultB_quiet s).effect
  | .startLeak, _, rfl => startLeak_effect s
  | .abortLeak, _, rfl => (abortLeak_quiet s).effect
  | .readStats _, _, rfl => (QuietStep.of_eq (readStats_state _ s)).effect
  | .clearStats _, _, rfl => (onStats_quiet _ _ s).effect
  | .releaseVariant _, _, rfl => (onStats_quiet _ _ s).effect

end Sys2Proof.Machine
end

section
/-! Every step keeps the capacities and the Unit List's shape. -/
namespace Sys2Proof.Machine

/-! ## The ring -/

/-- A change of the ring alone has only the ring's own capacities to keep. -/
theorem setRing_keeps (s : State) (x : Ring) (h : s.Bounded → (s.setRing x).Bounded) : Keeps s (s.setRing x) :=
  keeps_of_bounded h rfl rfl

theorem countBad_keeps (s : State) : Keeps s (countBad s) :=
  setRing_keeps s _ fun hb => { hb with bad := satSucc_le }

theorem forwardFrame_keeps (s : State) (frame : List Byte) : Keeps s (forwardFrame s frame) := by
  unfold forwardFrame
  repeat' split
  · exact setRing_keeps s _ fun hb => { hb with forwarded := satSucc_le }
  · exact setRing_keeps s _ fun hb => { hb with buffer := by simp; omega }
  · exact setRing_keeps s _ fun hb => { hb with discarded := satSucc_le }

theorem goodArrival_keeps (s : State) : Keeps s (goodArrival s) := by
  have h := setRing_keeps s { s.ring with stamp := some s.timeBase, port := .up, everUp := true }
    fun hb => { hb with }
  unfold goodArrival
  dsimp only
  split
  · exact h.trans (raise_quiet _ _ _ _ _).keeps
  · exact h

theorem repeatFrame_keeps (s : State) (bytes : List Byte) : Keeps s (repeatFrame s bytes) :=
  setRing_keeps s _ fun hb => { hb with }

theorem ringDown_keeps (s : State) : Keeps s (ringDown s) := setRing_keeps s _ fun hb => { hb with }

/-- Putting a frame on the line, or taking one from the forward buffer, keeps the forwarded count saturated. -/
theorem pump_forwarded_le (s : State) (h : s.ring.forwarded ≤ 65535) : (pump s).ring.forwarded ≤ 65535 := by
  unfold pump
  repeat' split
  · exact h
  · exact satSucc_le
  · exact h
  · exact h
  · next o _ => cases o <;> simp only [insertOffer] <;> (try split) <;> exact h

theorem pump_keeps (s : State) : Keeps s (pump s) := by
  have h := pump_lineStep s
  have hring := h.ring
  refine keeps_of_bounded (fun hb => ?_) h.units (by simp [State.working, h.runIn, h.leak])
  constructor
  case buffer => exact h.buffer.trans hb.buffer
  case bad => exact (congrArg Ring.bad hring).trans_le hb.bad
  case stripped => exact (congrArg Ring.stripped hring).trans_le hb.stripped
  case expired => exact (congrArg Ring.expired hring).trans_le hb.expired
  case discarded => exact (congrArg Ring.discarded hring).trans_le hb.discarded
  case forwarded => exact pump_forwarded_le s hb.forwarded
  case queue => rw [h.requests]; exact hb.queue
  case replies => rw [h.replies]; exact hb.replies
  case replyOfReset => rw [h.requests, h.replies]; exact hb.replyOfReset
  case reports => rw [h.reports]; exact hb.reports
  case nextReport => rw [h.reports]; exact hb.nextReport
  case units => rw [h.units]; exact hb.units
  case streams => rw [h.streams]; exact hb.streams
  case channels => rw [h.channels]; exact hb.channels
  case sources => rw [h.records]; exact hb.sources

/-! ## The Request Unit -/

/-- A change of the Request Unit alone that keeps the queue's capacity and begins no station reset. -/
theorem setRequests_keeps (s : State) (x : RequestUnit) (hq : s.requests.queue.length ≤ 4 → x.queue.length ≤ 4)
    (hw : x.resetWait.isSome = true → s.requests.resetWait.isSome = true) : Keeps s (s.setRequests x) :=
  keeps_of_bounded (fun hb => { hb with queue := hq hb.queue, replyOfReset := fun k => hb.replyOfReset (hw k) }) rfl rfl

theorem enqueueRequest_keeps (s : State) (q : Request) : Keeps s (enqueueRequest s q) := by
  unfold enqueueRequest
  split
  · exact setRequests_keeps s _ (fun _ => by simp; omega) id
  · exact (raise_quiet _ _ _ _ _).keeps

theorem enqueueRequests_keeps (qs : List Request) (s : State) : Keeps s (qs.foldl enqueueRequest s) := by
  induction qs generalizing s with
  | nil => exact .refl s
  | cons q qs ih => exact (enqueueRequest_keeps s q).trans (ih _)

theorem receiveRequest_keeps (s : State) (src : Nat) (payload : List Byte) : Keeps s (receiveRequest s src payload) :=
  (setRequests_keeps s
    { s.requests with assembly := (handlePart s.requests.assembly s.timeBase src payload).assembly } id id).trans
    (enqueueRequests_keeps _ _)

theorem assemblyExpires_keeps (s : State) : Keeps s (assemblyExpires s) := by
  unfold assemblyExpires
  split
  · exact .refl s
  · exact (setRequests_keeps s { s.requests with assembly := none } id id).trans (enqueueRequest_keeps _ _)

theorem dequeue_keeps (s : State) : Keeps s (dequeue s) :=
  setRequests_keeps s _ (fun h => by simp; omega) id

/-- A reply finds room where at most 3 wait and no station reset holds a place for its own (R163, R166). -/
theorem enqueueReply_keeps (s : State) (r : Reply)
    (h : s.Bounded → s.requests.resetWait.isSome = false ∧ s.arbiter.replies.length ≤ 3) : Keeps s (enqueueReply s r) :=
  keeps_of_bounded (fun hb => { hb with
    replies := by have := (h hb).2; simp [enqueueReply]; omega
    replyOfReset := fun k => absurd k (by simpa [enqueueReply] using (h hb).1) }) rfl rfl

theorem executeOne_keeps {s : State} {q : Request} {effect : State → State × Answer} (hq : s.oldest = some q)
    (h : ∀ t, EffectKeeps t (effect t).1) : Keeps s (executeOne s q effect) := by
  obtain ⟨-, hlen, hwait, -⟩ := (mayExecute_iff s).1 (oldest_eq_some hq).1
  obtain ⟨hkeeps, hreq, hrep⟩ := h (dequeue s)
  refine (((dequeue_keeps s).trans hkeeps).trans (enqueueReply_keeps _ _ fun _ => ?_)).trans (pump_keeps _)
  rw [hreq, hrep]
  exact ⟨by simp [dequeue, hwait], Nat.le_of_lt_succ hlen⟩

theorem executeBad_keeps (s : State) : Keeps s (executeBad s) := by
  unfold executeBad
  repeat' split
  · exact .refl s
  · exact .refl s
  · exact executeOne_keeps ‹_› fun t => .refl t

/-! ## Arrivals and transmission reports -/

theorem handleRow_keeps (s : State) (f : Frame) (row : Row) : Keeps s (handleRow s f row) := by
  have hin (t : State) (i : Nat) (cfg : StreamConfig) : Keeps t (intake t i cfg f.payload) :=
    ((intake_intakeStep t i cfg f.payload).quiet (intake_working t i cfg f.payload)).keeps
  unfold handleRow
  cases row with
  | stripped => exact setRing_keeps s _ fun hb => { hb with stripped := satSucc_le }
  | consumed =>
    dsimp only
    split
    · exact receiveRequest_keeps s _ _
    · exact setRing_keeps s _ fun hb => { hb with discarded := satSucc_le }
  | expired => exact setRing_keeps s _ fun hb => { hb with expired := satSucc_le }
  | matched i cfg =>
    dsimp only
    split
    · exact (forwardFrame_keeps s _).trans (hin _ _ _)
    · exact hin _ _ _
  | other => exact forwardFrame_keeps s _

theorem arrive_keeps (s : State) (bytes : List Byte) : Keeps s (arrive s bytes) := by
  unfold arrive
  repeat' split
  · exact repeatFrame_keeps s bytes
  · exact countBad_keeps s
  · exact (countBad_keeps s).trans (forwardFrame_keeps _ _)
  · exact (goodArrival_keeps s).trans (handleRow_keeps _ _ _)

theorem reportReply_keeps (s : State) : Keeps s (reportReply s) := by
  unfold reportReply
  repeat' split
  · exact .refl s
  · exact (QuietStep.keeps (by constructor <;> rfl))
  · next r rest hr _ =>
    refine keeps_of_bounded (fun hb => { hb with replies := ?_, replyOfReset := fun k => ?_ }) rfl rfl
    · have := hb.replies
      simp only [hr, List.length_cons] at this
      exact Nat.le_of_succ_le this
    · have := hb.replyOfReset k
      simp only [hr, List.length_cons] at this
      exact Nat.le_of_succ_le this

theorem reportSegment_keeps (s : State) (number segment : Nat) : Keeps s (reportSegment s number segment) := by
  unfold reportSegment
  repeat' split
  · exact .refl s
  · exact keeps_of_bounded (fun hb => { hb with }) rfl rfl
  · next r rest hr _ _ =>
    refine keeps_of_bounded (fun hb => { hb with reports := ?_ }) rfl rfl
    have := hb.reports
    simp only [hr, List.length_cons] at this
    exact Nat.le_of_succ_le this
  · exact .refl s

theorem reportTransmitted_keeps (s : State) (o : Origin) : Keeps s (reportTransmitted s o) := by
  cases o with
  | transit | notice => exact .refl s
  | drive n | valve n => exact setRequests_keeps s _ id (by simp)
  | reply => exact reportReply_keeps s
  | report n k => exact reportSegment_keeps s n k

theorem lineEnds_keeps (s : State) : Keeps s (lineEnds s) := by
  unfold lineEnds
  split
  · exact .refl s
  · exact (setRing_keeps s { s.ring with line := none } fun hb => { hb with }).trans (reportTransmitted_keeps _ _)

/-! ## Resets (R172, R169, R170) -/

theorem reset_bounded : State.reset.Bounded := by
  constructor <;> decide

theorem reset_lineSound : State.reset.LineSound := by
  constructor <;> decide

theorem afterReset_keeps (s : State) (pins : Pins) : Keeps s (afterReset s pins) :=
  ⟨fun _ => { reset_bounded with }, fun _ => { reset_lineSound with }⟩

theorem resetSwap_quiet (s : State) : QuietStep s (resetSwap s) := by
  unfold resetSwap
  split
  · exact .refl s
  · exact (updateSlot_jobStep s _ _).quiet (by simp)

/-- The clearing empties the Unit List and both sequencers and leaves no station reset in progress (R170). -/
theorem clearWork_keeps (s : State) : Keeps s (clearWork s) := by
  have hb' := (resetSwap_quiet s).bounded
  refine ⟨fun h => ?_, fun _ => ?_⟩
  · have hb := hb' h
    exact { hb with
      replyOfReset := fun k => absurd k (by simp [clearWork])
      reports := by simp [clearWork]
      units := by simp [clearWork]
      streams := by simpa [clearWork] using hb.streams
      channels := by simpa [clearWork] using hb.channels
      sources := by simpa [clearWork, Notices.cleared] using hb.sources }
  · constructor <;> simp [clearWork, State.countAt]

theorem completeReset_keeps (s : State) (src tag : Nat) (h : s.Bounded → s.arbiter.replies.length ≤ 3) :
    Keeps s (completeReset s src tag) := by
  refine ⟨fun hb => ?_, fun hl => ((clearWork_keeps s).line hl).of_identity rfl le_rfl⟩
  have hrep : (clearWork s).arbiter.replies = s.arbiter.replies := (resetSwap_quiet s).replies
  exact (enqueueReply_keeps _ _ fun _ => ⟨rfl, hrep ▸ h hb⟩).bounded ((clearWork_keeps s).bounded hb)

/-- The safe commands begin a station reset, which holds a place for its reply (R169, R163). -/
theorem safeCommands_keeps (s : State) (src tag : Nat) (h : s.arbiter.replies.length ≤ 3) :
    Keeps s (safeCommands s src tag) := by
  have hq : QuietStep s (issueValve (issueDriveNow s false 0 0 0) .vent) :=
    ((issueDriveNow_jobStep s _ _ _ _).trans (issueValve_jobStep _ _)).quiet (by simp)
  have hs := hq.trans ((setLeak_jobStep _
    { (issueValve (issueDriveNow s false 0 0 0) .vent).leak with suppressed := true }).quiet rfl)
  exact hs.keeps.trans (keeps_of_bounded (fun hb => { hb with replyOfReset := fun _ => hs.replies ▸ h }) rfl rfl)

theorem executeReset_keeps (s : State) : Keeps s (executeReset s) := by
  unfold executeReset
  repeat' split
  · exact .refl s
  · next q hq _ _ =>
    have hlen : (dequeue s).arbiter.replies.length ≤ 3 :=
      Nat.le_of_lt_succ ((mayExecute_iff s).1 (oldest_eq_some hq).1).2.1
    refine ((dequeue_keeps s).trans ?_).trans (pump_keeps _)
    unfold beginReset
    split
    · exact safeCommands_keeps _ _ _ hlen
    · exact completeReset_keeps _ _ _ fun _ => hlen
  · exact .refl s

/-! ## The Configuration Loader (R173, R174) -/

theorem loadFails_quiet (s : State) (record : Nat) : QuietStep s (loadFails s record) :=
  (setLoader_quiet s _).trans (raise_quiet _ _ _ _ _)

theorem imageRead_quiet (s : State) (image : Option (List Byte)) : QuietStep s (imageRead s image) := by
  unfold imageRead
  split
  · exact loadFails_quiet s 0
  · exact setLoader_quiet s _

theorem replayRequest_keeps (s : State) (q : Request) : Keeps s (replayRequest s q).1 := by
  unfold replayRequest
  repeat' split
  · exact .refl s
  · exact .refl s
  · exact (effectOf_effect s _ _ ‹_›).keeps

theorem replayRecord_keeps (s : State) (assembly : Option Assembly) (record : List Byte) :
    Keeps s (replayRecord s assembly record).1 := by
  unfold replayRecord
  dsimp only
  repeat' split
  · exact .refl s
  · exact ((setFreeCount_jobStep s (s.freeCount + 1)).quiet rfl).keeps
  · exact .refl s
  · exact replayRequest_keeps s _

theorem replayNext_keeps (s : State) (next : Nat) (record : List Byte) (rest : List (List Byte))
    (assembly : Option Assembly) : Keeps s (replayNext s next record rest assembly) := by
  have h := replayRecord_keeps s assembly record
  unfold replayNext
  dsimp only
  repeat' split
  · exact h.trans (loadFails_quiet _ _).keeps
  · exact h.trans (loadFails_quiet _ _).keeps
  · exact h.trans (setLoader_quiet _ _).keeps
  · exact h.trans (setLoader_quiet _ _).keeps

/-! ## Commands -/

theorem whenDue_keeps {s : State} {due : Bool} {effect : State → State} (h : Keeps s (effect s)) :
    Keeps s (whenDue s due effect) := by
  rcases whenDue_cases s due effect with he | ⟨-, -, he⟩ <;> rw [he]
  · exact .refl s
  · exact h.trans (pump_keeps _)

theorem whenDue_job_keeps {s : State} {due : Bool} {effect : State → State} (h : JobStep s (effect s))
    (hw : (effect s).working = s.working) : Keeps s (whenDue s due effect) := whenDue_keeps (h.quiet hw).keeps

theorem executeKind_keeps (s : State) {pick : Req → Option (State → State × Answer)}
    (h : ∀ r effect, pick r = some effect → effectOf r = some effect) : Keeps s (executeKind s pick) := by
  rcases executeKind_cases s pick with he | ⟨q, r, effect, hq, -, hp, he⟩ <;> rw [he]
  · exact .refl s
  · exact executeOne_keeps hq fun t => effectOf_effect t r effect (h r effect hp)

end Sys2Proof.Machine
end

section
/-! The rows of the table as `exec` runs them: request rows, events and resets. -/
namespace Sys2Proof.Machine

/-! ## The request rows -/

/-- What a request row but BAD_REQUEST and RESET picks out. -/
def pickOf : Instr → Option (Req → Option (State → State × Answer))
  | .bind => some pickBind
  | .readStatus => some pickReadStatus
  | .setNotice => some pickSetNotice
  | .clearNotice => some pickClearNotice
  | .loadStream => some pickLoadStream
  | .loadChannel => some pickLoadChannel
  | .channelEnable => some pickChannelEnable
  | .clearChannel => some pickClearChannel
  | .readChannel => some pickReadChannel
  | .readAngle => some pickReadAngle
  | .clearAngle => some pickClearAngle
  | .loadStand => some pickLoadStand
  | .loadVariant => some pickLoadVariant
  | .loadProfile => some pickLoadProfile
  | .loadOrderSet => some pickLoadOrderSet
  | .swapOrderSet => some pickSwapOrderSet
  | .readTable => some pickReadTable
  | .admitUnit => some pickAdmitUnit
  | .advanceA => some pickAdvanceA
  | .advanceB => some pickAdvanceB
  | .release => some pickRelease
  | .withdraw => some pickWithdraw
  | .readUnit => some pickReadUnit
  | .startSpin => some pickStartSpin
  | .abortSpin => some pickAbortSpin
  | .clearFaultA => some pickClearFaultA
  | .startLeak => some pickStartLeak
  | .abortLeak => some pickAbortLeak
  | .clearFaultB => some pickClearFaultB
  | .readStats => some pickReadStats
  | .clearStats => some pickClearStats
  | .releaseVariant => some pickReleaseVariant
  | _ => none

theorem exec_of_pickOf {c : Instr} {pick : Req → Option (State → State × Answer)} (h : pickOf c = some pick)
    (s : State) : exec c s = .next (executeKind s pick) := by
  unfold pickOf at h
  split at h <;> cases h <;> rfl

/-- A request row's effect is the request's own. -/
theorem effectOf_of_pickOf {c : Instr} {pick : Req → Option (State → State × Answer)} (h : pickOf c = some pick)
    (r : Req) (effect : State → State × Answer) (hp : pick r = some effect) : effectOf r = some effect := by
  unfold pickOf at h
  split at h <;> cases h
  all_goals
    simp only [pickBind, pickReadStatus, pickSetNotice, pickClearNotice, pickLoadStream, pickLoadChannel,
      pickChannelEnable,
      pickClearChannel, pickReadChannel, pickReadAngle, pickClearAngle, pickLoadStand, pickLoadVariant,
      pickLoadProfile, pickLoadOrderSet, pickSwapOrderSet, pickReadTable, pickAdmitUnit, pickAdvanceA, pickAdvanceB,
      pickRelease, pickWithdraw, pickReadUnit, pickStartSpin, pickAbortSpin, pickClearFaultA, pickStartLeak,
      pickAbortLeak, pickClearFaultB, pickReadStats, pickClearStats, pickReleaseVariant] at hp
    split at hp
    · exact hp
    · cases hp

/-! ## Every step -/

theorem execGuard_keeps (s : State) (asserted : Bool) :
    Keeps s (if asserted = s.pins.guardLow then s
      else whenDue (setGuardPin s asserted) (s.ring.port != .bypass) (fun s => guardEdge s asserted)) := by
  split
  · exact .refl s
  · exact (setPins_quiet s _).keeps.trans (whenDue_job_keeps (guardEdge_jobStep _ _) (guardEdge_working _ _))

/-- The clearing comes about only with a station reset in progress, which holds a place for its reply. -/
theorem clearing_keeps {s : State} {w : ResetWait} (h : s.clearingDue = some w) (due : Bool) :
    Keeps s (whenDue s due (fun s => completeReset s w.src w.tag)) := by
  refine whenDue_keeps (completeReset_keeps s _ _ fun hb => hb.replyOfReset ?_)
  unfold State.clearingDue at h
  split at h
  · next hw => simp [hw]
  · cases h

theorem exec_keeps {c : Instr} {s t : State} (h : exec c s = .next t) : Keeps s t := by
  cases hp : pickOf c with
  | some pick =>
    rw [exec_of_pickOf hp] at h
    cases h
    exact executeKind_keeps s (effectOf_of_pickOf hp)
  | none =>
    cases c with
    | powerOn | pinReset => cases h; exact afterReset_keeps s _
    | resetEnd straps load asserted =>
      cases h
      split
      · exact (afterReset_keeps s _).trans (setLoader_quiet _ _).keeps
      · exact .refl s
    | configImageRead image => cases h; exact whenDue_keeps (imageRead_quiet s image).keeps
    | configRecordReplay =>
      simp only [exec, execConfigRecordReplay] at h
      split at h <;> cases h
      · exact whenDue_keeps (replayNext_keeps s _ _ _ _)
      · exact .refl s
    | frameArrival bytes => cases h; exact whenDue_keeps (arrive_keeps s bytes)
    | fragment => cases h; exact whenDue_keeps (countBad_keeps s)
    | transmissionEnd => cases h; exact whenDue_keeps (lineEnds_keeps s)
    | ringDownTimeout => cases h; exact whenDue_keeps (ringDown_keeps s)
    | staleTimeout entry =>
      cases h
      exact whenDue_keeps ((staleExpires_intakeStep s entry).quiet (staleExpires_working s entry).le).keeps
    | guard asserted => cases h; exact execGuard_keeps s asserted
    | assemblyTimeout => cases h; exact whenDue_keeps (assemblyExpires_keeps s)
    | rampEnd => cases h; exact whenDue_job_keeps (enterSettle_jobStep s) (enterSettle_working s)
    | settleEnd => cases h; exact whenDue_job_keeps (holdEntry_jobStep s) (holdEntry_working s)
    | holdEnd => cases h; exact whenDue_job_keeps (endHold_jobStep s) (endHold_working s)
    | speedPersistExpiry => cases h; exact whenDue_job_keeps (takeOutcome_jobStep s _) (takeOutcome_working s _)
    | driveRefresh => cases h; exact whenDue_job_keeps (repeatDrive_jobStep s) (repeatDrive_working s)
    | stopTimeout =>
      simp only [exec, execStopTimeout] at h
      split at h <;> cases h
      · exact .refl s
      · exact whenDue_job_keeps (stopTimedOut_jobStep s _) (stopTimedOut_working s _)
    | fillTimeout => cases h; exact whenDue_job_keeps (takeLeakOutcome_jobStep s _ _) (takeLeakOutcome_working s _ _)
    | leakSettleEnd => cases h; exact whenDue_job_keeps (enterMeasure_jobStep s) (enterMeasure_working s)
    | measureEnd => cases h; exact whenDue_job_keeps (endMeasure_jobStep s) (endMeasure_working s)
    | ventTimeout =>
      simp only [exec, execVentTimeout] at h
      split at h <;> cases h
      · exact .refl s
      · exact whenDue_job_keeps (ventTimedOut_jobStep s _) (ventTimedOut_working s _)
    | valveRefresh => cases h; exact whenDue_job_keeps (repeatValve_jobStep s) (repeatValve_working s)
    | badRequest => cases h; exact executeBad_keeps s
    | reset => cases h; exact executeReset_keeps s
    | stationResetClearing =>
      simp only [exec, execStationResetClearing] at h
      split at h <;> cases h
      · exact .refl s
      · exact clearing_keeps ‹_› true
    | _ => cases hp

theorem idleNext_keeps (s : State) : Keeps s (idleNext s).2 := by
  unfold idleNext
  split
  · dsimp only
    split
    · exact .refl s
    · exact (setTimeBase_quiet s _).keeps
  · exact .refl s
  · exact ((setFreeCount_jobStep s (s.freeCount + 1)).quiet rfl).keeps

theorem step_keeps {s t : State} (h : step s = .next t) : Keeps s t := by
  have hidle := idleNext_keeps s
  unfold step at h
  split at h
  · exact (setPending_quiet s _).keeps.trans (exec_keeps h)
  · split at h
    · next hn => rw [hn] at hidle; exact hidle.trans (exec_keeps h)
    · next hn => rw [hn] at hidle; cases h; exact hidle

/-- Settles O55: `step_keeps` says it of each step, whatever command or event it runs. -/
theorem everyStepKeepsBoundsAndUnitList : Obligations.EveryStepKeepsBoundsAndUnitList := fun _ _ h =>
  ⟨(step_keeps h).bounded, (step_keeps h).line⟩

end Sys2Proof.Machine
end

section
/-! The resets (R1, R172, R173): the state after reset, the commands that reach and leave it, and a part held in it. -/
namespace Sys2Proof.Machine

/-! ## The state after reset -/

theorem reset_stream (i : Nat) (h : i < 16) :
    State.reset.streams[i]? = some { config := none, run := StreamRun.cleared } := List.getElem?_replicate_of_lt h

theorem reset_channel (i : Nat) (h : i < 24) : State.reset.channels[i]? = some Channel.unloaded :=
  List.getElem?_replicate_of_lt h

theorem reset_record (src : Source) : State.reset.notices.record src = { occurrence := none, announced := false } := by
  cases src <;> rfl

/-- Settles O4, field by field. -/
theorem resetStateHoldsTheChaptersValues : Obligations.ResetStateHoldsTheChaptersValues :=
  ⟨rfl, rfl, rfl, rfl, rfl, rfl, rfl, rfl, rfl, rfl, reset_stream, rfl, reset_channel, rfl, rfl, rfl, rfl, rfl, rfl,
    rfl, rfl, rfl, rfl, rfl, rfl, rfl, reset_record, rfl, rfl, rfl, rfl⟩

theorem reset_statsSound : State.reset.StatsSound := by
  intro t h
  cases h

theorem reset_angleSound : State.reset.AngleSound where
  cpr _ h := nomatch h
  stand h := absurd rfl h
  total := by decide
  locked _ h := nomatch h
  fault _ h := nomatch h

theorem reset_driveSound : State.reset.DriveSound where
  stand h := nomatch h
  guard _ _ h := nomatch h
  last _ h := nomatch h
  slot _ _ h := nomatch h

theorem reset_valveSound : State.reset.ValveSound where
  stand h := nomatch h
  noStand _ := rfl
  suppressed := rfl
  reset h := nomatch h
  fill h := nomatch h
  isolate h := nomatch h
  slot _ _ h := nomatch h

/-- Settles O60: nothing is loaded, waiting or running after reset. -/
theorem resetStateIsSound : Obligations.ResetStateIsSound :=
  ⟨reset_bounded, reset_lineSound, reset_statsSound, reset_angleSound, reset_driveSound, reset_valveSound⟩

/-! ## Into reset and out of it -/

theorem exec_resetEnd_held {s : State} (h : s.pins.resetHeld = true) (straps : BitVec 4) (load asserted : Bool) :
    exec (.resetEnd straps load asserted) s = .next (startUp s straps load asserted) := by
  simp [exec, execResetEnd, h]

theorem exec_resetEnd_running {s : State} (h : s.pins.resetHeld = false) (straps : BitVec 4) (load asserted : Bool) :
    exec (.resetEnd straps load asserted) s = .next s := by
  simp [exec, execResetEnd, h]

/-- Settles O5: the two resets are `holdInReset`, and RESET_END is `startUp`, for a part held in reset alone. -/
theorem resetsClearThePartAndStartIt : Obligations.ResetsClearThePartAndStartIt := by
  refine ⟨fun s c hc => ?_, fun s straps load asserted => ⟨fun h => ?_, fun h => ?_⟩⟩
  · simp only [List.mem_cons, List.not_mem_nil, or_false] at hc
    rcases hc with rfl | rfl <;> rfl
  · exact exec_resetEnd_held h straps load asserted
  · exact exec_resetEnd_running h straps load asserted

/-! ## Held in reset (R172) -/

theorem whenDue_of_held {s : State} (h : s.pins.resetHeld = true) (due : Bool) (effect : State → State) :
    whenDue s due effect = s := by
  simp [whenDue, h]

theorem whenDue_of_not_due {s : State} {due : Bool} (h : due = false) (effect : State → State) :
    whenDue s due effect = s := by
  simp [whenDue, h]

theorem oldest_of_held {s : State} (h : s.pins.resetHeld = true) : s.oldest = none := by
  simp [State.oldest, State.mayExecute, h]

/-- GUARD moves only the pin where the edge does not come about. -/
theorem exec_guard_of_no_edge {s : State} {asserted : Bool}
    (h : whenDue (setGuardPin s asserted) (s.ring.port != .bypass) (fun t => guardEdge t asserted) =
      setGuardPin s asserted) :
    exec (.guard asserted) s = .next (s.setPins { s.pins with guardLow := asserted }) := by
  simp only [exec, execGuard, h]
  split
  · next he => rw [he]; rfl
  · rfl

theorem exec_guard_of_held {s : State} (h : s.pins.resetHeld = true) (asserted : Bool) :
    exec (.guard asserted) s = .next (s.setPins { s.pins with guardLow := asserted }) :=
  exec_guard_of_no_edge (whenDue_of_held (s := setGuardPin s asserted) h _ _)

/-- Held in reset an event row does nothing, since its event does not come about, and a request row nothing, since no
request may begin. -/
theorem exec_of_held {s : State} (h : s.pins.resetHeld = true) (c : Instr) (hpower : c ≠ .powerOn)
    (hpin : c ≠ .pinReset) (hend : ∀ straps load asserted, c ≠ .resetEnd straps load asserted)
    (hguard : ∀ asserted, c ≠ .guard asserted) : exec c s = .next s := by
  have hold := oldest_of_held h
  have hevent (due : Bool) (effect : State → State) := whenDue_of_held h due effect
  cases hp : pickOf c with
  | some pick => rw [exec_of_pickOf hp, executeKind, hold]
  | none =>
    cases c with
    | powerOn => exact absurd rfl hpower
    | pinReset => exact absurd rfl hpin
    | resetEnd straps load asserted => exact absurd rfl (hend straps load asserted)
    | guard asserted => exact absurd rfl (hguard asserted)
    | badRequest => simp only [exec, execBadRequest, executeBad, hold]
    | reset => simp only [exec, execReset, executeReset, hold]
    | configRecordReplay => simp only [exec, execConfigRecordReplay, hevent]; split <;> rfl
    | stopTimeout => simp only [exec, execStopTimeout, hevent]; split <;> rfl
    | ventTimeout => simp only [exec, execVentTimeout, hevent]; split <;> rfl
    | stationResetClearing => simp only [exec, execStationResetClearing, hevent]; split <;> rfl
    | configImageRead | frameArrival | fragment | transmissionEnd | ringDownTimeout | staleTimeout | assemblyTimeout
    | rampEnd | settleEnd | holdEnd | speedPersistExpiry | driveRefresh | fillTimeout | leakSettleEnd | measureEnd
    | valveRefresh => exact congrArg _ (hevent _ _)
    | _ => cases hp

/-- Settles O6. -/
theorem heldInResetNothingActs : Obligations.HeldInResetNothingActs := fun _ h =>
  ⟨exec_guard_of_held h, exec_of_held h⟩

end Sys2Proof.Machine
end

section
/-! Frames as bytes (R4, R8, R12): what the check of R4 accepts, and what it reads. -/
namespace Sys2Proof.Machine

/-! ## Fields of a header -/

theorem highNibble_nibbles {high low : Nat} (h : high < 16) : highNibble (nibbles high low) = high := by
  simp only [highNibble, nibbles, byteOf, BitVec.toNat_ofNat]
  omega

theorem lowNibble_nibbles {high low : Nat} (h : low < 16) : lowNibble (nibbles high low) = low := by
  simp only [lowNibble, nibbles, byteOf, BitVec.toNat_ofNat]
  omega

theorem highNibble_lt (b : Byte) : highNibble b < 16 := by
  have := b.isLt
  simp only [highNibble]
  omega

theorem lowNibble_lt (b : Byte) : lowNibble b < 16 := Nat.mod_lt _ (by decide)

theorem nibbles_of_byte (b : Byte) : nibbles (highNibble b) (lowNibble b) = b := by
  have := b.isLt
  apply BitVec.eq_of_toNat_eq
  simp only [highNibble, lowNibble, nibbles, byteOf, BitVec.toNat_ofNat]
  omega

theorem byteOf_toNat (b : Byte) : byteOf b.toNat = b := by simp [byteOf]

theorem toNat_byteOf {n : Nat} (h : n < 256) : (byteOf n).toNat = n := by
  simpa [byteOf] using h

theorem decNat_enc2 {n : Nat} (h : n < 65536) : decNat (enc2 n) = n := by
  rw [← encNat_two, decNat_encNat]
  exact Nat.mod_eq_of_lt h

theorem enc2_decNat {bytes : List Byte} (h : bytes.length = 2) : enc2 (decNat bytes) = bytes := by
  rw [← encNat_two, ← h, encNat_decNat]

/-! ## The check of R4 -/

/-- The fields of a frame lie inside what its header and its length limit give them (R4, section 1.2). -/
structure Frame.Legal (f : Frame) : Prop where
  dest : f.dest < 16
  src : f.src < 16
  kind : f.kind < 16
  hop : f.hop < 16
  payload : f.payload.length ≤ 120

theorem checkFrame_encode {f : Frame} (h : f.Legal) : checkFrame f.encode = some f := by
  obtain ⟨hdest, hsrc, hkind, hhop, hlen⟩ := h
  have hbody : f.encode = nibbles f.dest f.src :: nibbles f.kind f.hop :: byteOf f.payload.length ::
      (f.payload ++ enc2 (crc16 f.body).toNat) := by simp [Frame.encode, Frame.body]
  have hrest : (f.payload ++ enc2 (crc16 f.body).toNat).length - 2 = f.payload.length := by simp [enc2]
  have hcrc : decNat (enc2 (crc16 f.body).toNat) = (crc16 f.body).toNat := decNat_enc2 (crc16 f.body).isLt
  have hn : (byteOf f.payload.length).toNat = f.payload.length := toNat_byteOf (by omega)
  have hb : nibbles f.dest f.src :: nibbles f.kind f.hop :: byteOf f.payload.length :: f.payload = f.body := rfl
  rw [hbody]
  simp only [checkFrame, hrest, List.take_left, List.drop_left, hcrc, hn, hb]
  simp [hlen, enc2, highNibble_nibbles, lowNibble_nibbles, hdest, hsrc, hkind, hhop]

theorem encode_of_checkFrame {bytes : List Byte} {f : Frame} (h : checkFrame bytes = some f) :
    f.encode = bytes ∧ f.Legal := by
  unfold checkFrame at h
  split at h
  · next b0 b1 len rest =>
    split at h
    · next hlong =>
      dsimp only at h
      split at h
      · next hgood =>
        obtain ⟨hcrc, hmax, hlen⟩ := hgood
        cases h
        have htail : (rest.drop (rest.length - 2)).length = 2 := by simp; omega
        refine ⟨?_, highNibble_lt b0, lowNibble_lt b0, highNibble_lt b1, lowNibble_lt b1, hlen ▸ hmax⟩
        simp only [Frame.encode, Frame.body, nibbles_of_byte, ← hlen, byteOf_toNat, List.cons_append, List.nil_append]
        rw [← hcrc, enc2_decNat htail, List.take_append_drop]
      · cases h
    · cases h
  · cases h

theorem length_of_checkFrame {bytes : List Byte} {f : Frame} (h : checkFrame bytes = some f) : bytes.length ≤ 125 := by
  obtain ⟨rfl, hlegal⟩ := encode_of_checkFrame h
  have := hlegal.payload
  simp [Frame.encode, Frame.body, enc2]
  omega

/-- Settles O8. -/
theorem framesReadBackAsBuilt : Obligations.FramesReadBackAsBuilt := by
  refine ⟨fun f hdest hsrc hkind hhop hlen => checkFrame_encode ⟨hdest, hsrc, hkind, hhop, hlen⟩,
    fun bytes f h => ?_, fun bytes f h hhop => ?_⟩
  · obtain ⟨henc, hdest, hsrc, hkind, hlim, hlen⟩ := encode_of_checkFrame h
    exact ⟨henc, hdest, hsrc, hkind, hlim, hlen⟩
  · obtain ⟨-, hdest, hsrc, hkind, hlim, hlen⟩ := encode_of_checkFrame h
    exact ⟨checkFrame_encode ⟨hdest, hsrc, hkind, by dsimp only; omega, hlen⟩, by omega, by omega⟩

end Sys2Proof.Machine
end

section
/-! The Ring Port (R2 to R14): the forward path, arrivals, the idle line and the ends of transmissions. -/
namespace Sys2Proof.Machine

/-! ## The idle line (R11, R161) -/

theorem pump_of_busy {s : State} {f : TxFrame} (h : s.ring.line = some f) : pump s = s := by
  simp [pump, h]

theorem pump_of_transit {s : State} {frame : List Byte} {rest : List (List Byte)} (h : s.ring.line = none)
    (hb : s.ring.buffer = frame :: rest) :
    pump s = s.setRing { s.ring with line := some { bytes := frame, origin := .transit }, buffer := rest,
                                     forwarded := sat16 s.ring.forwarded } := by
  simp [pump, h, hb]

theorem pump_of_empty {s : State} (h : s.ring.line = none) (hb : s.ring.buffer = []) :
    pump s = if s.pins.resetHeld = true ∨ s.ring.port = .bypass ∨ s.clearingDue.isSome = true then s
      else (offer s).elim s (insertOffer s) := by
  simp only [pump, h, hb, Bool.or_eq_true, decide_eq_true_eq, or_assoc]
  cases offer s <;> rfl

theorem offer_of_drive {s : State} {n : Nat} {c : DriveCommand} (h : s.arbiter.driveSlot = some (n, c)) :
    offer s = some (.drive n c) := by
  simp [offer, h]

theorem offer_of_valve {s : State} {n : Nat} {c : ValveCommand} (hd : s.arbiter.driveSlot = none)
    (h : s.arbiter.valveSlot = some (n, c)) : offer s = some (.valve n c) := by
  simp [offer, hd, h]

theorem offer_of_classes {s : State} (hd : s.arbiter.driveSlot = none) (hv : s.arbiter.valveSlot = none) :
    offer s = s.notices.settings.classes.findSome? (classOffer s) := by
  simp [offer, hd, hv]

/-- Settles O12. -/
theorem idleLineTakesTransitThenTheOffer : Obligations.IdleLineTakesTransitThenTheOffer := by
  refine ⟨fun s f h => pump_of_busy h, fun s frame rest h hb => pump_of_transit h hb, fun s h hb => ?_,
    fun s n c h => offer_of_drive h, fun s n c hd h => offer_of_valve hd h, fun s hd hv => ?_⟩
  · rw [pump_of_empty h hb]
    cases offer s <;> rfl
  · rw [offer_of_classes hd hv]
    rfl

/-! ## BYPASS (R2) -/

theorem pump_of_bypass {s : State} (h : s.ring.port = .bypass) (hb : s.ring.buffer = []) : pump s = s := by
  cases hl : s.ring.line with
  | some f => exact pump_of_busy hl
  | none => rw [pump_of_empty hl hb, if_pos (.inr (.inl h))]

theorem exec_frameArrival {s : State} (h : s.pins.resetHeld = false) (bytes : List Byte) :
    exec (.frameArrival bytes) s = .next (pump (arrive s bytes)) :=
  happens_of_whenDue (c := .frameArrival bytes) (effect := fun s => arrive s bytes) rfl h rfl

theorem exec_frameArrival_of_bypass {s : State} (h : s.pins.resetHeld = false) (hp : s.ring.port = .bypass)
    (bytes : List Byte) : exec (.frameArrival bytes) s =
      .next (s.setRing { s.ring with line := some { bytes := bytes, origin := .transit } }) := by
  have ha : arrive s bytes = repeatFrame s bytes := by simp [arrive, hp]
  rw [exec_frameArrival h, ha, pump_of_busy (f := { bytes := bytes, origin := .transit }) rfl]
  rfl

theorem exec_fragment_of_bypass {s : State} (hp : s.ring.port = .bypass) : exec .fragment s = .next s :=
  congrArg _ (whenDue_of_not_due (by simp [hp]) _)

theorem exec_guard_of_bypass {s : State} (hp : s.ring.port = .bypass) (asserted : Bool) :
    exec (.guard asserted) s = .next (s.setPins { s.pins with guardLow := asserted }) :=
  exec_guard_of_no_edge (whenDue_of_not_due (by simp [hp]) _)

/-- Settles O7. -/
theorem bypassOnlyRepeats : Obligations.BypassOnlyRepeats := fun _ h hp =>
  ⟨exec_frameArrival_of_bypass h hp, pump_of_bypass hp, exec_fragment_of_bypass hp,
    fun _ asserted => exec_guard_of_bypass hp asserted⟩

/-! ## Bad frames, fragments and the forward path (R3, R4, R10) -/

theorem arrive_of_long {s : State} {bytes : List Byte} (hp : s.ring.port ≠ .bypass) (h : 125 < bytes.length) :
    arrive s bytes = countBad s := by
  simp [arrive, hp, largestFrame, h]

theorem arrive_of_bad {s : State} {bytes : List Byte} (hp : s.ring.port ≠ .bypass) (hl : bytes.length ≤ 125)
    (h : checkFrame bytes = none) : arrive s bytes = forwardFrame (countBad s) bytes := by
  simp [arrive, hp, largestFrame, Nat.not_lt.2 hl, h]

theorem arrive_of_good {s : State} {bytes : List Byte} {f : Frame} (hp : s.ring.port ≠ .bypass)
    (h : checkFrame bytes = some f) :
    arrive s bytes = handleRow (goodArrival s) f (classify (goodArrival s) f) := by
  simp [arrive, hp, largestFrame, Nat.not_lt.2 (length_of_checkFrame h), h]

theorem fragment_happens {s : State} (h : s.pins.resetHeld = false) (hp : s.ring.port ≠ .bypass) :
    happens .fragment s (countBad s) :=
  happens_of_whenDue (effect := countBad) rfl h (by simpa using hp)

theorem forwardFrame_of_free {s : State} (frame : List Byte) (hl : s.ring.line = none) (hb : s.ring.buffer = []) :
    forwardFrame s frame = s.setRing { s.ring with line := some { bytes := frame, origin := .transit },
                                                   forwarded := sat16 s.ring.forwarded } := by
  simp [forwardFrame, hl, hb]

/-- On a busy line a frame waits in the forward buffer or, with both its places taken, is discarded (R10). -/
theorem forwardFrame_of_busy {s : State} (frame : List Byte) (hl : s.ring.line ≠ none) :
    forwardFrame s frame =
      if s.ring.buffer.length < 2 then s.setRing { s.ring with buffer := s.ring.buffer ++ [frame] }
      else s.setRing { s.ring with discarded := sat16 s.ring.discarded } := by
  unfold forwardFrame
  split
  · exact absurd ‹_› hl
  · rfl

/-- Settles O10. -/
theorem badFramesFragmentsAndTheForwardPath : Obligations.BadFramesFragmentsAndTheForwardPath := by
  refine ⟨fun s bytes h hp hl hbad => ?_, fun s h hp => fragment_happens h hp, fun s bytes h hp hl => ?_,
    fun s bytes hl hb => forwardFrame_of_free bytes hl hb, fun s bytes hl hb => ?_, fun s bytes hl hb => ?_⟩
  · rw [happens, exec_frameArrival h, arrive_of_bad hp hl hbad]
    rfl
  · rw [happens, exec_frameArrival h, arrive_of_long hp hl]
    rfl
  · rw [forwardFrame_of_busy bytes hl, if_pos hb]
  · rw [forwardFrame_of_busy bytes hl, if_neg (by omega)]

/-! ## The port state (R13, R14) -/

theorem goodArrival_ring (s : State) :
    (goodArrival s).ring = { s.ring with stamp := some s.timeBase, port := .up, everUp := true } := by
  unfold goodArrival
  dsimp only
  split <;> rfl

theorem goodArrival_eq (s : State) :
    goodArrival s = ((if s.ring.port = .down ∧ s.ring.everUp = true then
      raise s .ringRestored none none (.stamp s.timeBase) else s).setRing (goodArrival s).ring) := by
  rw [goodArrival_ring]
  unfold goodArrival
  dsimp only
  split <;> rfl

theorem goodArrival_streams (s : State) : (goodArrival s).streams = s.streams := by
  rw [goodArrival_eq]
  split <;> rfl

theorem ringDownDue_iff (s : State) : s.ringDownDue = true ↔
    ∃ t, s.ring.stamp = some t ∧ s.ring.port = .up ∧ 2 ≤ elapsed s.timeBase t := by
  unfold State.ringDownDue
  cases s.ring.stamp <;> simp

/-- Settles O11. -/
theorem ringStateFollowsGoodArrivals : Obligations.RingStateFollowsGoodArrivals := by
  refine ⟨fun s => ⟨goodArrival_ring s, goodArrival_eq s⟩, fun s t h hp hs hd => ?_, fun s h => ?_⟩
  · exact happens_of_whenDue (effect := ringDown) rfl h ((ringDownDue_iff s).2 ⟨t, hs, hp, hd⟩)
  · refine congrArg _ (whenDue_of_not_due (Bool.eq_false_iff.2 fun hdue => ?_) _)
    obtain ⟨t, hs, hp, hd⟩ := (ringDownDue_iff s).1 hdue
    exact absurd (h hp t hs) (by omega)

/-! ## The rows of a good frame (R5 to R9) -/

/-- The match of R9, entry by entry from number `i` on. -/
theorem matchFrom_eq_some {src num i : Nat} {es : List StreamEntry} {j : Nat} {cfg : StreamConfig}
    (h : matchFrom src num i es = some (j, cfg)) :
    i ≤ j ∧ (es[j - i]?).bind StreamEntry.enabled = some cfg ∧ cfg.source = src ∧ cfg.number = num := by
  induction es generalizing i with
  | nil => cases h
  | cons e es ih =>
    have hrest (h' : matchFrom src num (i + 1) es = some (j, cfg)) : i ≤ j ∧
        ((e :: es)[j - i]?).bind StreamEntry.enabled = some cfg ∧ cfg.source = src ∧ cfg.number = num := by
      obtain ⟨hij, hent, hpair⟩ := ih h'
      refine ⟨by omega, ?_, hpair⟩
      rwa [show j - i = j - (i + 1) + 1 by omega, List.getElem?_cons_succ]
    unfold matchFrom at h
    split at h
    · next c hc =>
      split at h
      · next hpair => cases h; exact ⟨le_rfl, by simp [hc], hpair⟩
      · exact hrest h
    · exact hrest h

/-- No match means that no enabled entry has the pair. -/
theorem matchFrom_eq_none {src num i : Nat} {es : List StreamEntry} :
    matchFrom src num i es = none ↔
      ∀ (k : Nat) (cfg : StreamConfig), (es[k]?).bind StreamEntry.enabled = some cfg →
        cfg.source ≠ src ∨ cfg.number ≠ num := by
  induction es generalizing i with
  | nil => simp [matchFrom]
  | cons e es ih =>
    have hsplit : (∀ (k : Nat) (cfg : StreamConfig), ((e :: es)[k]?).bind StreamEntry.enabled = some cfg →
          cfg.source ≠ src ∨ cfg.number ≠ num) ↔
        (∀ cfg, e.enabled = some cfg → cfg.source ≠ src ∨ cfg.number ≠ num) ∧ matchFrom src num (i + 1) es = none := by
      rw [ih]
      constructor
      · exact fun h => ⟨fun cfg hc => h 0 cfg hc, fun k cfg hc => h (k + 1) cfg hc⟩
      · rintro ⟨h0, hk⟩ (_ | k) cfg hc
        · exact h0 cfg hc
        · exact hk k cfg hc
    rw [hsplit, matchFrom]
    split
    · next c hc =>
      split
      · next hpair => simp [hc, hpair]
      · next hpair =>
        simp only [hc, Option.some.injEq, forall_eq']
        exact (and_iff_right (not_and_or.1 hpair)).symm
    · next hc => simp [hc]

theorem matchStream_eq_some {s : State} {src : Nat} {payload : List Byte} {i : Nat} {cfg : StreamConfig}
    (h : matchStream s src payload = some (i, cfg)) : s.enabledStream i = some cfg ∧ cfg.source = src ∧
      ∃ num rest, payload = num :: rest ∧ cfg.number = num.toNat := by
  cases payload with
  | nil => cases h
  | cons num rest =>
    obtain ⟨-, hent, hsrc, hnum⟩ := matchFrom_eq_some h
    exact ⟨hent, hsrc, num, rest, rfl, hnum⟩

theorem matchStream_eq_none {s : State} {src : Nat} {payload : List Byte} :
    matchStream s src payload = none ↔ ∀ i cfg num rest, s.enabledStream i = some cfg → payload = num :: rest →
      cfg.source ≠ src ∨ cfg.number ≠ num.toNat := by
  cases payload with
  | nil => simp [matchStream]
  | cons num rest =>
    rw [matchStream, matchFrom_eq_none]
    constructor
    · rintro h i cfg _ _ hent ⟨⟩
      exact h i cfg hent
    · exact fun h i cfg hent => h i cfg num rest hent rfl

/-- What is done with a good frame: the action of the first row of R5 that holds. -/
theorem handleRow_classify (s : State) (f : Frame) : handleRow s f (classify s f) =
    if f.src = s.ring.node then s.setRing { s.ring with stripped := sat16 s.ring.stripped }
    else if f.dest = s.ring.node then
      if f.kind = 3 then receiveRequest s f.src f.payload
      else s.setRing { s.ring with discarded := sat16 s.ring.discarded }
    else if f.hop ≤ 1 then s.setRing { s.ring with expired := sat16 s.ring.expired }
    else
      (if f.kind = 1 then matchStream s f.src f.payload else none).elim (forwardFrame s f.forwarded)
        (fun m => intake (if m.2.disposition = .forward then forwardFrame s f.forwarded else s) m.1 m.2 f.payload) := by
  unfold classify
  split
  · rfl
  · split
    · rfl
    · split
      · rfl
      · unfold kindSampleSet
        by_cases hk : f.kind = 1
        · rw [if_pos hk, if_pos hk]
          cases matchStream s f.src f.payload with
          | none => rfl
          | some m => simp only [handleRow, Option.elim_some]; cases m.2.disposition <;> rfl
        · rw [if_neg hk, if_neg hk]
          rfl

/-- Settles O9. -/
theorem goodFramesAreClassifiedOnce : Obligations.GoodFramesAreClassifiedOnce := by
  refine ⟨fun s src payload => ⟨fun i cfg h => matchStream_eq_some h, matchStream_eq_none⟩, fun s bytes f h hp hf => ?_⟩
  have hm : matchStream (goodArrival s) f.src f.payload = matchStream s f.src f.payload := by
    simp only [matchStream, goodArrival_streams]
  rw [happens, exec_frameArrival h, arrive_of_good hp hf, handleRow_classify, hm]
  simp only [goodArrival_ring]
  cases (if f.kind = 1 then matchStream s f.src f.payload else none) <;> rfl

/-! ## The end of a transmission (R12, R153, R154, R162, R163, R170) -/

theorem transmissionEnd_happens {s : State} {f : TxFrame} (h : s.pins.resetHeld = false) (hl : s.ring.line = some f) :
    happens .transmissionEnd s (reportTransmitted (s.setRing { s.ring with line := none }) f.origin) := by
  have he : lineEnds s = reportTransmitted (s.setRing { s.ring with line := none }) f.origin := by
    simp [lineEnds, hl]
  exact he ▸ happens_of_whenDue (effect := lineEnds) rfl h (by simp [hl])

theorem reportReply_of_cons {s : State} {r : Reply} {rest : List Reply} (h : s.arbiter.replies = r :: rest) :
    reportReply s = s.setArbiter
      (if s.arbiter.sent + 1 < r.frames then { s.arbiter with sent := s.arbiter.sent + 1 }
       else { s.arbiter with replies := rest, sent := 0 }) := by
  simp only [reportReply, h]
  split <;> rfl

theorem reportSegment_of_cons {s : State} {r : Report} {rest : List Report} (n k : Nat)
    (h : s.reports.reports = r :: rest) : reportSegment s n k =
      if r.number = n ∧ s.reports.transmitted = k then s.setReports
        (if s.reports.transmitted + 1 < r.segments then { s.reports with transmitted := s.reports.transmitted + 1 }
         else { s.reports with reports := rest, transmitted := 0 })
      else s := by
  simp only [reportSegment, h]
  split
  · split <;> rfl
  · rfl

theorem reportSegment_of_nil {s : State} (n k : Nat) (h : s.reports.reports = []) : reportSegment s n k = s := by
  simp [reportSegment, h]

/-- Settles O14. -/
theorem transmissionEndReportsToItsPlace : Obligations.TransmissionEndReportsToItsPlace := by
  intro s f h hl
  have hend := transmissionEnd_happens h hl
  refine ⟨?_, fun n ho => ?_, fun n ho => ?_, fun r rest ho hr => ?_, fun n k r rest ho hr => ?_, fun n k ho hr => ?_⟩
  · rintro (ho | ho) <;> rw [ho] at hend <;> exact hend
  · rw [ho] at hend; exact hend
  · rw [ho] at hend; exact hend
  · rw [ho] at hend
    exact reportReply_of_cons (s := s.setRing { s.ring with line := none }) hr ▸ hend
  · rw [ho] at hend
    exact reportSegment_of_cons (s := s.setRing { s.ring with line := none }) n k hr ▸ hend
  · rw [ho] at hend
    exact reportSegment_of_nil (s := s.setRing { s.ring with line := none }) n k hr ▸ hend

end Sys2Proof.Machine
end

section
/-! The part's own frames (R12): what inserting one does, and how replies (R178) and reports (R151, R152) are
divided. -/
namespace Sys2Proof.Machine

/-! ## Chunks of a list -/

theorem flatMap_chunks_take {α β : Type} (c : Nat) (xs : List α) (f : α → List β) (n : Nat) :
    (List.range n).flatMap (fun i => ((xs.drop (c * i)).take c).flatMap f) = (xs.take (c * n)).flatMap f := by
  induction n with
  | zero => simp
  | succ n ih =>
    rw [List.range_succ, List.flatMap_append, ih, Nat.mul_succ, List.take_add, List.flatMap_append]
    simp

/-- The chunks of `c` elements make up a list that is no longer than all of them. -/
theorem flatMap_chunks {α β : Type} {c n : Nat} {xs : List α} (h : xs.length ≤ c * n) (f : α → List β) :
    (List.range n).flatMap (fun i => ((xs.drop (c * i)).take c).flatMap f) = xs.flatMap f := by
  rw [flatMap_chunks_take, List.take_of_length_le h]

/-! ## Lengths of fields -/

@[simp] theorem enc1_length (n : Nat) : (enc1 n).length = 1 := rfl
@[simp] theorem enc2_length (n : Nat) : (enc2 n).length = 2 := rfl
@[simp] theorem enc4_length (n : Nat) : (enc4 n).length = 4 := rfl
@[simp] theorem encS2_length (z : Int) : (encS2 z).length = 2 := rfl
@[simp] theorem encS4_length (z : Int) : (encS4 z).length = 4 := rfl
@[simp] theorem encBool_length (b : Bool) : (encBool b).length = 1 := rfl
@[simp] theorem encWord_length (w : BitVec 32) : (encWord w).length = 4 := rfl
@[simp] theorem encNone_length (n : Option Nat) : (encNone n).length = 1 := rfl
@[simp] theorem encS2Clamped_length (z : Int) : (encS2Clamped z).length = 2 := rfl
@[simp] theorem enc2Wide_length (n : Nat) : (enc2Wide n).length = 2 := rfl

@[simp] theorem encS2Absent_length (z : Option Int) : (encS2Absent z).length = 2 := by cases z <;> rfl

@[simp] theorem encS4Wide_length (z : Int) : (encS4Wide z).length = 4 := by unfold encS4Wide; split <;> rfl

@[simp] theorem leakResultBytes_length (r : Option LeakResult) : (leakResultBytes r).length = 23 := by
  cases r <;> simp [leakResultBytes]

@[simp] theorem Report.header_length (r : Report) : r.header.length = 53 := by simp [Report.header]

@[simp] theorem Summary.bytes_length (m : Summary) : m.bytes.length = 12 := by
  cases h : m.maxTorque <;> simp [Summary.bytes, h]

@[simp] theorem Finding.bytes_length (f : Finding) : f.bytes.length = 15 := by
  cases h : f.worst <;> simp [Finding.bytes, h]

theorem nibbles_eq {high low : Nat} (hh : high < 16) (hl : low < 16) : nibbles high low = byteOf (high * 16 + low) := by
  rw [nibbles, Nat.mod_eq_of_lt hh, Nat.mod_eq_of_lt hl]

/-! ## Insertions (R12, R158, R162, R163) -/

theorem checkFrame_ownFrame {node dest kind : Nat} {payload : List Byte} (hnode : node < 16) (hdest : dest < 16)
    (hkind : kind < 16) (hlen : payload.length ≤ 120) : checkFrame (ownFrame node dest kind payload) =
      some { dest := dest, src := node, kind := kind, hop := 15, payload := payload } :=
  checkFrame_encode ⟨hdest, hnode, hkind, Nat.lt_succ_self 15, hlen⟩

theorem insertOffer_notice {s : State} {src : Source} {o : Occurrence}
    (h : (s.notices.record src).occurrence = some o) :
    insertOffer s (.notice src) =
      (putOnLine s 0 kindNotice (noticePayload src o s.timeBase) .notice).setNotices (s.notices.take src) := by
  simp [insertOffer, h]

/-- What taking a notice leaves in its source's record (R158). -/
theorem NoticeRecord.taken_eq {r : NoticeRecord} {o : Occurrence} (h : r.occurrence = some o) (latched : Bool) :
    r.taken latched = if latched = true then { occurrence := some o, announced := true }
      else { occurrence := none, announced := r.announced } := by
  simp [NoticeRecord.taken, h]

/-! ## Replies (R178) -/

theorem Reply.payload_content (r : Reply) (k : Nat) : (r.payload k).drop 5 = (r.content.drop (115 * k)).take 115 := rfl

theorem Reply.payload_eq {r : Reply} {k : Nat} (hk : k < r.frames) (hf : r.frames ≤ 15) : r.payload k =
    enc2 r.tag ++ enc1 r.kind ++ enc1 r.code ++ enc1 (k * 16 + r.frames) ++ (r.payload k).drop 5 := by
  rw [r.payload_content, Reply.payload, nibbles_eq (by omega) (by omega)]
  rfl

theorem Reply.payload_length (r : Reply) (k : Nat) :
    (r.payload k).length = 5 + min 115 (r.content.length - 115 * k) := by
  simp [Reply.payload]
  omega

theorem Reply.content_le (r : Reply) : r.content.length ≤ 115 * r.frames := by
  simp only [Reply.frames, ceilDiv]
  omega

/-- Every frame before the last is full. -/
theorem Reply.full_before_last {r : Reply} {k : Nat} (h : k + 1 < r.frames) : 115 * (k + 1) ≤ r.content.length := by
  simp only [Reply.frames, ceilDiv] at h
  omega

theorem Reply.frames_content (r : Reply) :
    (List.range r.frames).flatMap (fun k => (r.payload k).drop 5) = r.content := by
  simpa [r.payload_content] using flatMap_chunks r.content_le (fun b => [b])

/-! ## Reports (R151, R152) -/

/-- The 20 bytes that every segment begins with: report number, serial, index and total, last-segment bit and type. -/
def Report.common (r : Report) (k type : Nat) : List Byte :=
  enc2 r.number ++ r.unit.serial ++ enc1 (k * 16 + r.segments) ++
    enc1 ((if k + 1 = r.segments then 128 else 0) + type)

theorem Report.common_length {r : Report} (h : r.unit.serial.length = 16) (k type : Nat) :
    (r.common k type).length = 20 := by
  simp [Report.common, h]

section
variable {r : Report} (hseg : r.segments ≤ 15)
include hseg

theorem Report.payload_header : r.payload 0 = r.common 0 0 ++ r.header := by
  rw [Report.payload, nibbles_eq (by decide) (by omega)]
  rfl

theorem Report.payload_summary {i : Nat} (hi : i < r.summarySegments) : r.payload (1 + i) =
    r.common (1 + i) 1 ++ ((r.unit.summaries.drop (8 * i)).take 8).flatMap Summary.bytes := by
  have hlt : 1 + i < 16 := by simp only [Report.segments] at hseg; omega
  rw [Report.payload, nibbles_eq hlt (by omega)]
  dsimp only
  rw [if_neg (show ¬ 1 + i = 0 by omega), if_pos (show 1 + i ≤ r.summarySegments by omega), Nat.add_sub_cancel_left]
  rfl

theorem Report.payload_finding {i : Nat} (hi : i < r.findingSegments) : r.payload (1 + r.summarySegments + i) =
    r.common (1 + r.summarySegments + i) 2 ++ ((r.unit.findings.drop (6 * i)).take 6).flatMap Finding.bytes := by
  have hlt : 1 + r.summarySegments + i < 16 := by simp only [Report.segments] at hseg; omega
  have hsub : 1 + r.summarySegments + i - 1 - r.summarySegments = i := by omega
  rw [Report.payload, nibbles_eq hlt (by omega), hsub]
  dsimp only
  rw [if_neg (show ¬ 1 + r.summarySegments + i = 0 by omega),
    if_neg (show ¬ 1 + r.summarySegments + i ≤ r.summarySegments by omega)]
  rfl

end

theorem flatMap_length_le {α β : Type} {f : α → List β} {n : Nat} (hf : ∀ x, (f x).length = n) (xs : List α) (c : Nat) :
    ((xs.take c).flatMap f).length ≤ c * n := by
  simp only [List.length_flatMap, hf, List.map_const', List.sum_replicate, List.length_take, smul_eq_mul]
  exact Nat.mul_le_mul_right _ (Nat.min_le_left _ _)

theorem Report.payload_length_le {r : Report} (hseg : r.segments ≤ 15) (hserial : r.unit.serial.length = 16) {k : Nat}
    (hk : k < r.segments) : (r.payload k).length ≤ 120 := by
  have hc := Report.common_length hserial
  rcases Nat.eq_zero_or_pos k with rfl | hpos
  · simp [Report.payload_header hseg, hc]
  · by_cases hs : k ≤ r.summarySegments
    · obtain ⟨i, rfl⟩ : ∃ i, k = 1 + i := ⟨k - 1, by omega⟩
      have := flatMap_length_le Summary.bytes_length (r.unit.summaries.drop (8 * i)) 8
      rw [Report.payload_summary hseg (by omega), List.length_append, hc]
      omega
    · obtain ⟨i, rfl⟩ : ∃ i, k = 1 + r.summarySegments + i := ⟨k - 1 - r.summarySegments, by omega⟩
      have := flatMap_length_le Finding.bytes_length (r.unit.findings.drop (6 * i)) 6
      rw [Report.payload_finding hseg (by simp only [Report.segments] at hk; omega), List.length_append, hc]
      omega

theorem Report.summaries_le (r : Report) : r.unit.summaries.length ≤ 8 * r.summarySegments := by
  simp only [Report.summarySegments, ceilDiv]
  omega

theorem Report.findings_le (r : Report) : r.unit.findings.length ≤ 6 * r.findingSegments := by
  simp only [Report.findingSegments, ceilDiv]
  omega

/-- The SUMMARY segments together carry the summaries. -/
theorem Report.summaries_content {r : Report} (hseg : r.segments ≤ 15) (hserial : r.unit.serial.length = 16) :
    (List.range r.summarySegments).flatMap (fun i => (r.payload (1 + i)).drop 20) =
      r.unit.summaries.flatMap Summary.bytes := by
  rw [← flatMap_chunks r.summaries_le]
  refine List.flatMap_congr fun i hi => ?_
  rw [Report.payload_summary hseg (List.mem_range.1 hi), List.drop_left' (Report.common_length hserial _ _)]

/-- The FINDING segments together carry the findings. -/
theorem Report.findings_content {r : Report} (hseg : r.segments ≤ 15) (hserial : r.unit.serial.length = 16) :
    (List.range r.findingSegments).flatMap (fun i => (r.payload (1 + r.summarySegments + i)).drop 20) =
      r.unit.findings.flatMap Finding.bytes := by
  rw [← flatMap_chunks r.findings_le]
  refine List.flatMap_congr fun i hi => ?_
  rw [Report.payload_finding hseg (List.mem_range.1 hi), List.drop_left' (Report.common_length hserial _ _)]

theorem Report.segments_le {r : Report} (hsum : r.unit.summaries.length ≤ 32) (hfind : r.unit.findings.length ≤ 48) :
    r.segments ≤ 13 := by
  simp only [Report.segments, Report.summarySegments, Report.findingSegments, ceilDiv]
  omega

/-- Settles O13. -/
theorem insertedFramesAreThePartsOwn : Obligations.InsertedFramesAreThePartsOwn := by
  refine ⟨fun node dest kind payload => checkFrame_ownFrame, fun s dest c => rfl, fun s dest c => rfl, fun s r => rfl,
    fun s r => rfl, fun s src o hlen ho => ?_, fun r => ?_, fun r hserial hsum hfind => ?_⟩
  · obtain ⟨hsame, hother⟩ := s.notices.record_setRecord src ((s.notices.record src).taken src.latched) hlen
    rw [insertOffer_notice ho]
    exact ⟨rfl, hsame.trans (NoticeRecord.taken_eq ho _), hother, rfl, rfl⟩
  · refine ⟨rfl, r.frames_content, fun k hk hf => ⟨Reply.payload_eq hk hf, ?_, fun hlast => ?_⟩⟩
    · rw [r.payload_length]; omega
    · have := Reply.full_before_last hlast
      rw [r.payload_length]; omega
  · have hseg := Report.segments_le hsum hfind
    have hseg' : r.segments ≤ 15 := by omega
    exact ⟨rfl, hseg, r.header_length, Report.payload_header hseg', fun i hi => Report.payload_summary hseg' hi,
      fun i hi => Report.payload_finding hseg' hi, Report.summaries_content hseg' hserial,
      Report.findings_content hseg' hserial, fun k hk => Report.payload_length_le hseg' hserial hk⟩

end Sys2Proof.Machine
end

section
/-! The READ requests (R35, R50, R66, R79, R148, R168), and the clearing of a station reset (R170). -/
namespace Sys2Proof.Machine

/-! ## READ requests -/

@[simp] theorem dequeue_tables (s : State) : (dequeue s).tables = s.tables := rfl

theorem readChannel_eq (selector n : Nat) (s : State) :
    readChannel selector n s = (s, match selector, s.channels[n]?, s.streams[n]? with
      | 0, some ch, _ => { code := .ok, content := channelReply s n ch }
      | 1, _, some e => { code := .ok, content := streamReply e }
      | _, _, _ => refusal .badValue) := by
  match selector with
  | 0 => rw [readChannel]; cases s.channels[n]? <;> rfl
  | 1 => rw [readChannel]; cases s.streams[n]? <;> cases s.channels[n]? <;> rfl
  | m + 2 => cases s.channels[n]? <;> cases s.streams[n]? <;> rfl

/-- Settles O26. -/
theorem readsAnswerAndChangeNothing : Obligations.ReadsAnswerAndChangeNothing := by
  refine ⟨fun s q h => answers_of_effect h rfl rfl rfl, fun s q h => answers_of_effect h rfl rfl rfl,
    fun s q selector n h => answers_of_effect h rfl rfl (readChannel_eq selector n (dequeue s)),
    fun s q kind i h => answers_of_effect h rfl rfl ?_,
    fun s q selector ordinal serial h => answers_of_effect h rfl rfl ?_,
    fun s q slot h => answers_of_effect h rfl rfl ?_⟩
  · rcases kind with _ | kind
    · rfl
    · simp only [readTable, dequeue_tables]
      cases s.tables with
      | none => cases kind <;> rfl
      | some t =>
        cases kind with
        | partition | stand => rfl
        | variant => dsimp only; cases t.variants[i]? <;> rfl
        | profile => dsimp only; cases t.profiles[i]? <;> rfl
        | orderSetActive | orderSetShadow => dsimp only; cases t.orderSets[i]? <;> rfl
  · unfold readUnit
    split
    · rfl
    · have hsel : selectUnit (dequeue s) selector ordinal serial = selectUnit s selector ordinal serial := rfl
      rw [hsel]
      cases selectUnit s selector ordinal serial <;> rfl
  · simp only [readStats, dequeue_tables]
    cases s.tables with
    | none => rfl
    | some t =>
      dsimp only
      cases t.variants[slot]? with
      | none => rfl
      | some x => cases hx : x.record <;> simp only [hx] <;> rfl

/-! ## The clearing of a station reset (R170) -/

theorem clearingDue_iff {s : State} {w : ResetWait} : s.clearingDue = some w ↔
    s.requests.resetWait = some w ∧ w.driveDone = true ∧ w.valveDone = true := by
  unfold State.clearingDue
  cases s.requests.resetWait with
  | none => simp
  | some x => simp only [Bool.and_eq_true, Option.ite_none_right_eq_some, Option.some.injEq]; grind

theorem resetSwap_kept (s : State) : (resetSwap s).tables.map Tables.kept = s.tables.map Tables.kept := by
  unfold resetSwap
  split
  · rfl
  · exact (updateSlot_jobStep s _ _).tables

/-- What one slot's change leaves in every slot. -/
theorem updateSlot_orderSlot (s : State) (m n : Nat) (f : OrderSlot → OrderSlot) :
    (updateSlot s m f).orderSlot n = (s.orderSlot n).map (fun o => if m = n then f o else o) := by
  unfold updateSlot State.orderSlot
  cases ht : s.tables with
  | none => simp [ht]
  | some t => simp only [State.setTables_tables, modifyAt_getElem?]; split <;> simp

theorem resetSwap_orderSlot (s : State) (n : Nat) : (resetSwap s).orderSlot n = (s.orderSlot n).map (fun o =>
    if s.inWindow n = true ∧ o.swapPending = true then o.swapped else o) := by
  unfold resetSwap State.inWindow
  cases s.engine.window with
  | none => simp
  | some w =>
    simp only [updateSlot_orderSlot, decide_eq_true_eq]
    congr 1; funext o; grind

theorem resetSwap_eq (s : State) : resetSwap s = s.setTables (resetSwap s).tables := by
  unfold resetSwap updateSlot
  repeat' split
  all_goals rfl

/-- The pending swap (R65) writes the tables alone, so the clearing reads every other block as it was. -/
theorem clearWork_eq (s : State) : clearWork s =
    { s with
      tables := (resetSwap s).tables, streams := s.streams.map StreamEntry.runCleared,
      channels := s.channels.map Channel.cleared, angle := Angle.afterReset, units := [],
      runIn := { run := none, outcomeSegment := none, commandNumber := s.runIn.commandNumber, lastCommand := none,
                 refreshStart := none, guardAsserted := s.runIn.guardAsserted },
      engine := { window := none, failSeen := false, noResultSeen := false, unavailableSeen := false },
      leak := { run := none, count := 0, commandNumber := s.leak.commandNumber, lastCommand := s.leak.lastCommand,
                refreshStart := none, suppressed := false },
      reports := { reports := [], transmitted := 0, next := s.reports.next }, notices := s.notices.cleared,
      requests := { s.requests with resetWait := none } } := by
  rw [clearWork, resetSwap_eq]
  rfl

theorem StreamEntry.runCleared_eq (e : StreamEntry) :
    e.runCleared = { e with run := if e.enabled.isSome then StreamRun.cleared else e.run } := by
  unfold StreamEntry.runCleared
  split <;> rfl

/-- Settles O22. -/
theorem stationResetClearsTheWork : Obligations.StationResetClearsTheWork := by
  refine ⟨fun s w h hw hd hv => ?_, fun s h => ?_, fun s => ?_⟩
  · have hc : s.clearingDue = some w := clearingDue_iff.2 ⟨hw, hd, hv⟩
    exact happens_of_whenDue (due := true) (effect := fun s => completeReset s w.src w.tag)
      (by simp only [exec, execStationResetClearing, hc]) h rfl
  · have hc : s.clearingDue = none := by
      rw [Option.eq_none_iff_forall_ne_some]
      intro w hw
      obtain ⟨hw, hd, hv⟩ := clearingDue_iff.1 hw
      cases h w hw <;> simp_all
    simp only [exec, execStationResetClearing, hc]
  · have hswap := resetSwap_orderSlot s
    rw [clearWork_eq]
    exact ⟨rfl, rfl, rfl, rfl, rfl, rfl, rfl, rfl, rfl, List.map_congr_left fun e _ => e.runCleared_eq, rfl, rfl, rfl,
      rfl, rfl, rfl, rfl, rfl, resetSwap_kept s, hswap⟩

end Sys2Proof.Machine
end

section
/-! The requests that load and change streams and channels (R16, R17, R25, R26, R32, R34). -/
namespace Sys2Proof.Machine

/-! ## Refusals as a list of reasons -/

/-- What a request's effect answers when it is refused with the first reason that applies, the state `d` kept, and
otherwise accepted with `t`. -/
def firstAnswer (d : State) (reasons : List (Bool × Code)) (t : State) : State × Answer :=
  (if firstCode reasons = .ok then t else d, refusal (firstCode reasons))

@[simp] theorem firstAnswer_nil (d t : State) : firstAnswer d [] t = accept t := rfl

theorem firstAnswer_cons {c : Code} (hc : c ≠ .ok) (d : State) (b : Bool) (rest : List (Bool × Code)) (t : State) :
    firstAnswer d ((b, c) :: rest) t = if b = true then refuse d c else firstAnswer d rest t := by
  cases b
  · rfl
  · simp [firstAnswer, hc, refuse, refusal]

theorem answersFirst_of_firstAnswer {s : State} {q : Request} {r : Req} {c : Instr}
    {pick : Req → Option (State → State × Answer)} {effect : State → State × Answer} {t : State}
    {reasons : List (Bool × Code)} (h : s.takes q r) (hc : exec c s = .next (executeKind s pick))
    (hp : pick r = some effect) (he : effect (dequeue s) = firstAnswer (dequeue s) reasons t) :
    answersFirst c s q reasons t := answers_of_effect h hc hp he

/-! ## LOAD_STREAM (R16, R17) -/

theorem StreamEntry.enabled_eq_some {e : StreamEntry} {cfg : StreamConfig} :
    e.enabled = some cfg ↔ e.config = some cfg ∧ cfg.enable = true := by
  unfold StreamEntry.enabled
  cases e.config <;> simp
  grind

theorem State.enabledStream_eq_some {s : State} {i : Nat} {cfg : StreamConfig} :
    s.enabledStream i = some cfg ↔ ∃ e, s.streams[i]? = some e ∧ e.config = some cfg ∧ cfg.enable = true := by
  simp [State.enabledStream, Option.bind_eq_some_iff, StreamEntry.enabled_eq_some]

/-- An enabled entry is an entry of the table. -/
theorem State.lt_of_enabledStream {s : State} {i : Nat} {cfg : StreamConfig} (h : s.enabledStream i = some cfg) :
    i < s.streams.length := by
  obtain ⟨e, he, -⟩ := State.enabledStream_eq_some.1 h
  exact (List.getElem?_eq_some_iff.1 he).1

theorem StreamConfig.live_of_enable {cfg : StreamConfig} (h : cfg.enable = true) :
    cfg.live = cfg.binding.filterMap id := by simp [StreamConfig.live, h]

/-- Another enabled entry that a test of its configuration finds. -/
theorem any_enabledStream {s : State} {i : Nat} {p : StreamConfig → Bool} :
    ((List.range s.streams.length).any fun j => j != i &&
        match s.enabledStream j with | some other => p other | none => false) = true ↔
      ∃ j other, j ≠ i ∧ s.enabledStream j = some other ∧ p other = true := by
  simp only [List.any_eq_true, List.mem_range, Bool.and_eq_true, bne_iff_ne]
  constructor
  · rintro ⟨j, -, hj, hp⟩
    cases h : s.enabledStream j with
    | none => simp [h] at hp
    | some other => exact ⟨j, other, hj, h, by simpa [h] using hp⟩
  · rintro ⟨j, other, hj, h, hp⟩
    exact ⟨j, State.lt_of_enabledStream h, hj, by simpa [h] using hp⟩

theorem pairTaken_iff (s : State) (i : Nat) (cfg : StreamConfig) : pairTaken s i cfg = true ↔
    ∃ j other, j ≠ i ∧ s.enabledStream j = some other ∧ other.source = cfg.source ∧ other.number = cfg.number :=
  (any_enabledStream (p := fun other => other.source = cfg.source && other.number = cfg.number)).trans (by simp)

theorem channelTaken_iff (s : State) (i : Nat) (named : List Nat) : channelTaken s i named = true ↔
    ∃ j other c, j ≠ i ∧ s.enabledStream j = some other ∧ c ∈ named ∧ some c ∈ other.binding :=
  (any_enabledStream (p := fun other => named.any fun c => other.binds c)).trans (by simp [StreamConfig.binds])

theorem allDistinct_iff {α : Type} [DecidableEq α] (xs : List α) : allDistinct xs = true ↔ xs.Nodup := by
  induction xs with
  | nil => simp [allDistinct]
  | cons x xs ih => simp [allDistinct, ih]

/-- Settles O24. -/
theorem loadStreamChecksAndWritesOneEntry : Obligations.LoadStreamChecksAndWritesOneEntry := by
  refine ⟨fun s q i h => answers_of_effect h rfl rfl rfl, fun s q i cfg h => ?_, pairTaken_iff, channelTaken_iff,
    allDistinct_iff⟩
  intro named old new
  have hold : (match s.enabledStream i with | some c => c.live | none => []) = old := by
    cases h : s.enabledStream i with
    | none => simp [old, h]
    | some c =>
      obtain ⟨-, -, -, he⟩ := State.enabledStream_eq_some.1 h
      simp [old, h, StreamConfig.live_of_enable he]
  have hcode : loadStreamRefusal (dequeue s) i cfg =
      if (cfg.hasIndex && !cfg.hasPosition) = true then some .badValue
      else if (cfg.enable && pairTaken s i cfg) = true then some .badValue
      else if (!allDistinct named || (cfg.enable && channelTaken s i named)) = true then some .badValue
      else if (old ++ new).any s.inUse = true then some .inUse
      else if s.angleSource = some i ∧ s.runIn.run.isSome = true then some .inUse
      else none := by
    rw [← hold]
    rfl
  refine answersFirst_of_firstAnswer h rfl rfl ?_
  simp only [loadStream, hcode, firstAnswer_cons, ne_eq, reduceCtorEq, not_false_eq_true, firstAnswer_nil,
    decide_eq_true_eq, Bool.and_eq_true (decide _)]
  split_ifs <;> rfl


/-! ## Requests on channels (R25, R26, R32, R34) -/

/-- A change of one element may name that element. -/
theorem modifyAt_const {α : Type} {xs : List α} {i : Nat} {x : α} (h : xs[i]? = some x) (f : α → α) :
    modifyAt f xs i = modifyAt (fun _ => f x) xs i := by
  refine List.ext_getElem? fun j => ?_
  simp only [modifyAt_getElem?]
  split
  · next hij => subst hij; simp [h]
  · rfl

theorem updateChannel_const {s : State} {c : Nat} {ch : Channel} (h : s.channels[c]? = some ch)
    (f : Channel → Channel) : updateChannel s c f = updateChannel s c (fun _ => f ch) := by
  simp only [updateChannel, modifyAt_const h f]

theorem Channel.enabled_eq (ch : Channel) (a d : Bool) : ch.enabled a d =
    if ch.acquire = true ∧ a = true then { ch with diagnose := d, flatRun := if ch.diagnose = d then ch.flatRun else 0 }
    else { ch with acquire := a, diagnose := d, status := if a then .waiting else .disabled, lastRaw := none,
                   lastValue := none, clipCount := 0, filledCount := 0, flatRun := 0 } := by
  obtain ⟨cfg, acquire, diagnose, status, raw, value, clips, fills, run⟩ := ch
  unfold Channel.enabled
  cases acquire <;> cases a <;> try rfl
  by_cases h : diagnose = d <;> simp [h]

theorem Channel.faultCleared_eq (ch : Channel) : ch.faultCleared =
    { ch with clipCount := 0, filledCount := 0,
              status := (match ch.status with | .fault _ => .waiting | other => other),
              flatRun := (match ch.status with | .fault _ => 0 | _ => ch.flatRun) } := by
  unfold Channel.faultCleared
  cases ch.status <;> rfl

theorem requiredA_eq_true (s : State) (c : Nat) :
    s.requiredA c = true ↔ ∃ r, s.runIn.run = some r ∧ (c = r.torqueChannel ∨ c = r.oilChannel) := by
  unfold State.requiredA
  cases s.runIn.run <;> simp [eq_comm (a := c)]

theorem requiredB_eq_true (s : State) (c : Nat) :
    s.requiredB c = true ↔ ∃ r, s.leak.run = some r ∧ c = r.channel := by
  unfold State.requiredB
  cases s.leak.run <;> simp [eq_comm (a := c)]

/-- What uses a channel (R34). -/
theorem inUse_iff (s : State) (c : Nat) : s.inUse c = true ↔
    (∃ r, s.runIn.run = some r ∧ (c = r.torqueChannel ∨ c = r.oilChannel)) ∨
    (∃ r, s.leak.run = some r ∧ c = r.channel) ∨
    ∃ w entry, s.engine.window = some w ∧ (c, entry) ∈ w.channels := by
  simp only [State.inUse, Bool.or_eq_true, requiredA_eq_true, requiredB_eq_true, or_assoc]
  cases s.engine.window <;> simp

/-- Settles O25. -/
theorem channelRequestsWriteOneChannel : Obligations.ChannelRequestsWriteOneChannel := by
  refine ⟨fun s q c h => answers_of_effect h rfl rfl rfl,
    fun s q c cfg h => answersFirst_of_firstAnswer h rfl rfl ?_, fun s q c a d ch h hch => ?_,
    fun s q c a d h hbad => answers_of_effect h rfl rfl ?_,
    fun s q c h => answersFirst_of_firstAnswer h rfl rfl ?_, inUse_iff⟩
  · simp only [loadChannel, firstAnswer_cons, ne_eq, reduceCtorEq, not_false_eq_true, firstAnswer_nil,
      decide_eq_true_eq]
    rfl
  · refine answersFirst_of_firstAnswer h rfl rfl ?_
    have hch' : (dequeue s).channels[c]? = some ch := hch
    simp only [channelEnable, hch', firstAnswer_cons, ne_eq, reduceCtorEq, not_false_eq_true, firstAnswer_nil,
      updateChannel_const hch', Channel.enabled_eq, Bool.and_eq_true, Bool.not_eq_true']
  · have hch : (dequeue s).channels = s.channels := rfl
    rcases hbad with rfl | rfl | hlen
    · rfl
    · cases a <;> rfl
    · simp only [channelEnable, hch, List.getElem?_eq_none hlen]
      cases a <;> cases d <;> rfl
  · have hcleared : Channel.faultCleared = _ := funext Channel.faultCleared_eq
    simp only [clearChannel, firstAnswer_cons, ne_eq, reduceCtorEq, not_false_eq_true, firstAnswer_nil,
      decide_eq_true_eq, hcleared] <;> rfl

end Sys2Proof.Machine
end

section
/-! START_SPIN (R83, R84), the beginning of a segment (R85) and role selection (R33). -/
namespace Sys2Proof.Machine

/-! ## Role selection (R33) -/

theorem Channel.usable_iff {role : Role} (hv : role ≠ .vibration) (hs : role ≠ .sound) (bay : Bay) (ch : Channel) :
    ch.usable role bay = true ↔ ∃ cfg, ch.config = some cfg ∧ ch.acquire = true ∧
      (ch.status = .ok ∨ ch.status = .held) ∧ cfg.role = role ∧ (role ≠ .ambientTemp → cfg.bay = some bay) := by
  unfold Channel.usable
  cases ch.config with
  | none => simp
  | some cfg => cases role <;> simp_all [and_assoc]

theorem selectFrom_eq_some {role : Role} {bay : Bay} {i : Nat} {xs : List Channel} {c : Nat} {ch : Channel} :
    selectFrom role bay i xs = some (c, ch) ↔ ∃ k, c = i + k ∧ xs[k]? = some ch ∧ ch.usable role bay = true ∧
      ∀ j x, j < k → xs[j]? = some x → ¬x.usable role bay = true := by
  induction xs generalizing i with
  | nil => simp [selectFrom]
  | cons x xs ih =>
    simp only [selectFrom]
    split
    · next hx =>
      simp only [Option.some.injEq, Prod.mk.injEq]
      constructor
      · rintro ⟨rfl, rfl⟩
        exact ⟨0, rfl, rfl, hx, by simp⟩
      · rintro ⟨k, rfl, hk, -, hj⟩
        cases k with
        | zero => exact ⟨rfl, by simpa using hk⟩
        | succ k => exact absurd hx (hj 0 x (by omega) rfl)
    · next hx =>
      rw [ih]
      constructor
      · rintro ⟨k, rfl, hk, hu, hj⟩
        refine ⟨k + 1, by omega, hk, hu, fun j y hlt hy => ?_⟩
        cases j with
        | zero => cases hy; exact hx
        | succ j => exact hj j y (by omega) hy
      · rintro ⟨k, rfl, hk, hu, hj⟩
        cases k with
        | zero => cases hk; exact absurd hu hx
        | succ k => exact ⟨k, by omega, hk, hu, fun j y hlt hy => hj (j + 1) y (by omega) hy⟩

theorem selectFrom_eq_none {role : Role} {bay : Bay} {i : Nat} {xs : List Channel} :
    selectFrom role bay i xs = none ↔ ∀ ch ∈ xs, ¬ch.usable role bay = true := by
  induction xs generalizing i with
  | nil => simp [selectFrom]
  | cons x xs ih => simp only [selectFrom]; split <;> simp_all

theorem State.select_eq_some {s : State} {role : Role} {bay : Bay} {c : Nat} {ch : Channel} :
    s.select role bay = some (c, ch) ↔ s.channels[c]? = some ch ∧ ch.usable role bay = true ∧
      ∀ j x, j < c → s.channels[j]? = some x → ¬x.usable role bay = true := by
  rw [State.select, selectFrom_eq_some]
  simp

theorem State.select_eq_none {s : State} {role : Role} {bay : Bay} :
    s.select role bay = none ↔ ∀ (c : Nat) ch, s.channels[c]? = some ch → ¬ch.usable role bay = true := by
  rw [State.select, selectFrom_eq_none]
  exact ⟨fun h c ch hc => h ch (List.mem_of_getElem? hc), fun h ch hch =>
    let ⟨c, hc⟩ := List.mem_iff_getElem?.1 hch; h c ch hc⟩

/-! ## The check (R83) -/

/-- R83's reasons, in their order. -/
def startSpinReasons (s : State) : List (Bool × Code) :=
  [((s.unitAt .bayA).isNone, .bayEmpty),
   (s.runIn.run.isSome, .active),
   ((match s.unitAt .bayA with | some u => decide (u.runin ≠ .notRun) | none => false), .wrongState),
   (s.runIn.guardAsserted, .guardOpen),
   (s.stand.isNone || (s.select .torque .a).isNone || (s.select .oilTemp .a).isNone ||
      (match s.angle.state with | .fault _ => true | _ => false), .notReady),
   (((s.variantAtA).bind (fun v => s.profile v.profile)).isNone, .noVariant)]

theorem startSpinCheck_error {s : State} (h : firstCode (startSpinReasons s) ≠ .ok) :
    startSpinCheck s = .error (firstCode (startSpinReasons s)) := by
  revert h
  unfold startSpinCheck startSpinReasons
  cases s.unitAt .bayA with
  | none => simp
  | some u =>
    simp only [firstCode_cons, firstCode_nil, Option.isNone_some, Bool.false_eq_true, if_false, decide_eq_true_eq]
    split
    · simp
    split
    · simp
    split
    · simp
    rcases s.stand with _ | st
    · cases s.angle.state <;> simp
    rcases s.select .torque .a with _ | torque
    · cases s.angle.state <;> simp
    rcases s.select .oilTemp .a with _ | oil
    · cases s.angle.state <;> simp
    rcases s.variantAtA with _ | v
    · cases s.angle.state <;> simp
    cases hp : s.profile v.profile <;> cases s.angle.state <;> simp [hp]

theorem startSpinCheck_ok {s : State} {st : Stand} {torque oil : Nat × Channel} {v : Variant} {segs : List Segment}
    (h : firstCode (startSpinReasons s) = .ok) (hst : s.stand = some st) (ht : s.select .torque .a = some torque)
    (ho : s.select .oilTemp .a = some oil) (hv : s.variantAtA = some v) (hp : s.profile v.profile = some segs) :
    startSpinCheck s =
      .ok { torqueChannel := torque.1, oilChannel := oil.1, stand := st, variant := v, profile := segs } := by
  revert h
  unfold startSpinCheck startSpinReasons
  simp only [hst, ht, ho, hv, hp]
  cases s.unitAt .bayA with
  | none => simp
  | some u =>
    simp only [firstCode_cons, firstCode_nil, Option.isNone_some, Bool.false_eq_true, if_false, decide_eq_true_eq]
    split
    · simp
    split
    · simp
    split
    · simp
    cases s.angle.state <;> simp [hp]


/-! ## A segment begins (R84, R85) -/

/-- The drive slot once the command `c` is placed: without a stand record no command is (R88). -/
def State.driveSlotWith (s : State) (c : DriveCommand) : Option (Nat × DriveCommand) :=
  match s.stand with
  | some st => some (st.driveNode, c)
  | none => s.arbiter.driveSlot

theorem State.driveSlotWith_of_stand {s : State} {st : Stand} (h : s.stand = some st) (c : DriveCommand) :
    s.driveSlotWith c = some (st.driveNode, c) := by
  simp only [State.driveSlotWith, h]

theorem placeDrive_eq (s : State) (c : DriveCommand) :
    placeDrive s c = s.setArbiter { s.arbiter with driveSlot := s.driveSlotWith c } := by
  unfold placeDrive State.driveSlotWith
  cases s.stand <;> rfl

/-- A drive command is issued (R88) where no station reset holds drive commands back. -/
theorem issueDrive_of_free {s : State} (h : s.requests.resetWait = none) (run : Bool) (speed : Int) (ramp : Nat)
    (torque : Int) :
    let c := nextDrive s run speed ramp torque
    issueDrive s run speed ramp torque = (s.setRunIn { s.runIn with
        commandNumber := c.number, lastCommand := some c, refreshStart := some s.timeBase }).setArbiter
      { s.arbiter with driveSlot := s.driveSlotWith c } := by
  have hfree : ¬s.driveHeldBack = true := by simp [State.driveHeldBack, h]
  simp only [issueDrive, if_neg hfree, issueDriveNow, placeDrive_eq]
  rfl

/-- A station reset holds drive commands back (R169). -/
theorem issueDrive_of_held {s : State} (h : s.requests.resetWait ≠ none) (run : Bool) (speed : Int) (ramp : Nat)
    (torque : Int) : issueDrive s run speed ramp torque = s :=
  if_pos (Option.isSome_iff_ne_none.2 h)

/-- Settles O42. -/
theorem startSpinBeginsARunIn : Obligations.StartSpinBeginsARunIn := by
  refine ⟨fun s q h => ⟨fun hcode => ?_, fun st torque oil v segs hcode hst ht ho hv hp => ?_⟩,
    fun s r i seg st hr hseg hst => ⟨fun hw => ?_, fun hw => ?_⟩, fun s r seg hr hseg => ?_,
    fun s role bay hv hs => ⟨fun c ch => ?_, ?_⟩⟩
  · refine answers_of_effect h rfl rfl ?_
    have he : startSpinCheck (dequeue s) = _ := startSpinCheck_error (s := s) hcode
    simp only [startSpin, he]
    rfl
  · refine answers_of_effect h rfl rfl ?_
    have he : startSpinCheck (dequeue s) = _ := startSpinCheck_ok (s := s) hcode hst ht ho hv hp
    simp only [startSpin, he]
    rfl
  · simp only [beginSegment, hr, hseg, issueDrive_of_free hw, State.driveSlotWith_of_stand hst, updateRun]
    rfl
  · simp only [beginSegment, hr, hseg, issueDrive_of_held hw, updateRun]
  · simp only [enterSettle, hr, SpinRun.current, hseg, updateRun]
  · simp only [State.select_eq_some, Channel.usable_iff hv hs]
  · simp only [State.select_eq_none, Channel.usable_iff hv hs]

end Sys2Proof.Machine
end

section
/-! What a channel takes and publishes (R28 to R31), and the outcomes that the sequencers take when one is lost (R93,
R94, R109, R134). -/
namespace Sys2Proof.Machine

/-! ## Taking an outcome (R94, R97) -/

theorem updateRun_of_run {s : State} {r : SpinRun} (h : s.runIn.run = some r) (f : SpinRun → SpinRun) :
    updateRun s f = s.setRunIn { s.runIn with run := some (f r) } := by simp only [updateRun, h]

/-- The state in which STOPPING is entered: the window closed early in HOLD, the outcome pending. -/
def outcomePending (s : State) (r : SpinRun) (o : RuninOutcome) : State :=
  (windowClosed s r.phase).setRunIn
    { s.runIn with run := some { r with pending := some o }, outcomeSegment := some r.segment }

theorem takeOutcome_of_supervised {s : State} {r : SpinRun} (h : s.runIn.run = some r)
    (hs : r.phase.supervised = true) (o : RuninOutcome) :
    takeOutcome s o = enterStopping (outcomePending s r o) := by
  simp only [takeOutcome, h, hs, if_true, outcomePending, windowClosed]
  split
  · rw [closeWindow_setRunIn]
  · rfl

theorem takeOutcome_of_unsupervised {s : State} (h : ∀ r, s.runIn.run = some r → r.phase.supervised = false)
    (o : RuninOutcome) : takeOutcome s o = s := by
  unfold takeOutcome
  split
  · rfl
  · next r hr => rw [if_neg (by simp [h r hr])]

/-- Closing the window early touches neither the time, the stand record nor the Request Unit. -/
theorem windowClosed_jobStep (s : State) (phase : SpinPhase) : JobStep s (windowClosed s phase) :=
  jobStep_ite (closeWindow_jobStep s) (.refl s)

theorem windowClosed_frame (s : State) (phase : SpinPhase) :
    (windowClosed s phase).channels = s.channels ∧ (windowClosed s phase).angle = s.angle ∧
      (windowClosed s phase).leak = s.leak ∧ (windowClosed s phase).arbiter = s.arbiter := by
  unfold windowClosed
  split
  · obtain ⟨hch, hangle, hleak, -, harb, -⟩ := closeWindow_frame s
    exact ⟨hch, hangle, hleak, harb⟩
  · exact ⟨rfl, rfl, rfl, rfl⟩

/-- Taking an outcome, in full (R94, R97): the window closed early, the stop in the record, the stop command and the
run in STOPPING. -/
theorem takeOutcome_eq {s : State} {r : SpinRun} (h : s.runIn.run = some r) (hs : r.phase.supervised = true)
    (o : RuninOutcome) :
    let c := nextDrive s true 0 r.stand.stopRamp 0
    let stopping : RunIn := { s.runIn with
      run := some { r with pending := some o, phase := .stopping, phaseStart := s.timeBase },
      outcomeSegment := some r.segment }
    takeOutcome s o = { windowClosed s r.phase with
      units := (windowClosed s r.phase).units.map (fun u => if u.position = .bayA then
        { u with tEndAt := some s.timeBase, tEnd := (s.select .oilTemp .a).bind (fun x => x.2.lastValue) } else u),
      runIn := if s.requests.resetWait = none then
          { stopping with commandNumber := c.number, lastCommand := some c, refreshStart := some s.timeBase }
        else stopping,
      arbiter := if s.requests.resetWait = none then { s.arbiter with driveSlot := s.driveSlotWith c }
        else s.arbiter } := by
  intro c stopping
  have hjob := windowClosed_jobStep s r.phase
  obtain ⟨hch, -, -, harb⟩ := windowClosed_frame s r.phase
  rw [takeOutcome_of_supervised h hs, outcomePending]
  generalize windowClosed s r.phase = w at *
  obtain ⟨-, htime, -, hst, -, -, hreq, -, -, -, -, -, -, -, -, -⟩ := hjob
  obtain ⟨⟩ := w
  dsimp only at htime hst hreq hch harb
  subst htime hst hreq hch harb
  simp only [enterStopping, State.setRunIn_runIn]
  by_cases hw : s.requests.resetWait = none
  · simp only [if_pos hw]
    rw [issueDrive_of_free]
    · rfl
    · exact hw
  · simp only [if_neg hw]
    rw [issueDrive_of_held]
    · rfl
    · exact hw

theorem takeOutcome_taken {s : State} {r : SpinRun} {st : Stand} (h : s.runIn.run = some r)
    (hs : r.phase.supervised = true) (hst : s.stand = some st) (o : RuninOutcome) :
    OutcomeTaken s st r o (takeOutcome s o) := by
  have hstep := takeOutcome_jobStep s o
  obtain ⟨hch, hangle, hleak, harb⟩ := windowClosed_frame s r.phase
  have hslot := State.driveSlotWith_of_stand hst
  rw [takeOutcome_eq h hs, hslot] at hstep ⊢
  refine ⟨hstep, ?_, ?_, ?_, ?_, ?_, ?_, hch, hangle, hleak⟩
  · split <;> rfl
  · dsimp only; split <;> rfl
  · dsimp only; split <;> rfl
  · dsimp only; split <;> rfl
  · unfold driveIssued
    by_cases hw : s.requests.resetWait = none
    · simp [hw]
    · simp [hw]
  · unfold windowClosed
    split
    · exact (closeWindow_frame s).2.2.2.2.2
    · exact ⟨rfl, rfl, rfl⟩

/-! ## Taking a leak outcome (R124, R134) -/

/-- A valve command is issued (R124) while none is suppressed. -/
theorem issueValve_of_free {s : State} {st : Stand} (h : s.leak.suppressed = false) (hst : s.stand = some st)
    (kind : ValveKind) :
    issueValve s kind = (s.setLeak { s.leak with
        commandNumber := (s.leak.commandNumber + 1) % 256, lastCommand := some kind,
        refreshStart := some s.timeBase }).setArbiter
      { s.arbiter with
        valveSlot := some (st.valveNode, { kind := kind, number := (s.leak.commandNumber + 1) % 256 }) } := by
  simp only [issueValve, h, Bool.false_eq_true, if_false, placeValve, State.setLeak_stand, hst]
  rfl

theorem issueValve_of_suppressed {s : State} (h : s.leak.suppressed = true) (kind : ValveKind) :
    issueValve s kind = s := if_pos h

@[simp] theorem issueValve_run (s : State) (kind : ValveKind) : (issueValve s kind).leak.run = s.leak.run := by
  unfold issueValve placeValve
  dsimp only
  repeat' split
  all_goals rfl

/-- The test in VENT with its outcome pending (R134). -/
def LeakRun.ended (r : LeakRun) (o : LeakOutcome) (result : Option LeakResult) (now : Time) : LeakRun :=
  { r with pending := some o, result := result, phase := .vent, phaseStart := now }

theorem takeLeakOutcome_of_testing {s : State} {r : LeakRun} (h : s.leak.run = some r) (ht : r.phase.testing = true)
    (o : LeakOutcome) (result : Option LeakResult) : takeLeakOutcome s o result =
      issueValve (s.setLeak { s.leak with run := some (r.ended o result s.timeBase) }) .vent := by
  simp only [takeLeakOutcome, h, ht, if_true, enterPhase, updateTest, State.setLeak_leak]
  rfl

theorem takeLeakOutcome_of_not_testing {s : State} (h : ∀ r, s.leak.run = some r → r.phase.testing = false)
    (o : LeakOutcome) (result : Option LeakResult) : takeLeakOutcome s o result = s := by
  unfold takeLeakOutcome
  split
  · rfl
  · next r hr => rw [if_neg (by simp [h r hr])]

theorem takeLeakOutcome_taken {s : State} {r : LeakRun} {st : Stand} (h : s.leak.run = some r)
    (ht : r.phase.testing = true) (hst : s.stand = some st) (o : LeakOutcome) (result : Option LeakResult) :
    LeakOutcomeTaken s st r o result (takeLeakOutcome s o result) := by
  rw [takeLeakOutcome_of_testing h ht]
  cases hsup : s.leak.suppressed
  · rw [issueValve_of_free (st := st)]
    · refine ⟨rfl, rfl, rfl, rfl, ?_⟩
      simp [valveIssued, hsup]
    · exact hsup
    · exact hst
  · rw [issueValve_of_suppressed]
    · refine ⟨rfl, rfl, rfl, rfl, ?_⟩
      simp [valveIssued, hsup]
    · exact hsup


/-! ## One value (R28 to R31) -/

/-- A channel takes nothing without a configuration or in DISABLED (R28). -/
theorem Channel.take_dropped {ch : Channel} (h : ch.config = none ∨ ch.status = .disabled) (raw : Int)
    (filled : Bool) : ch.take raw filled = (ch, .dropped) := by
  unfold Channel.take
  rcases h with h | h <;> simp only [h]
  cases ch.config <;> rfl

theorem Channel.take_recorded {ch : Channel} {cfg : ChannelConfig} {kind : FaultKind} (h : ch.config = some cfg)
    (hs : ch.status = .fault kind) (raw : Int) (filled : Bool) :
    ch.take raw filled = (ch.withLast raw (cfg.engineering raw), .recorded) := by
  simp only [Channel.take, h, hs]

/-- Loaded, and neither DISABLED nor in FAULT: the value is filled, taken as it is, or tested (R28). -/
theorem Channel.take_active {ch : Channel} {cfg : ChannelConfig} (h : ch.config = some cfg)
    (hd : ch.status ≠ .disabled) (hf : ∀ kind, ch.status ≠ .fault kind) (raw : Int) (filled : Bool) :
    ch.take raw filled =
      if filled then
        ({ ch.withLast raw (cfg.engineering raw) with status := .held, filledCount := sat16 ch.filledCount },
          .published false)
      else if ch.diagnose then ch.tested cfg raw (cfg.engineering raw)
      else ({ ch.withLast raw (cfg.engineering raw) with status := .ok }, .published false) := by
  simp only [Channel.take, h]
  cases hs : ch.status with
  | disabled => exact absurd hs hd
  | fault kind => exact absurd hs (hf kind)
  | waiting | ok | held | stale => rfl

theorem Role.scaled_iff (r : Role) : r.scaled = true ↔ r ≠ .vibration ∧ r ≠ .sound := by
  cases r <;> simp [Role.scaled]

theorem ChannelConfig.outOfRange_iff (cfg : ChannelConfig) (value : Int) : cfg.outOfRange value = true ↔
    (cfg.role ≠ .vibration ∧ cfg.role ≠ .sound) ∧ (value < cfg.rangeMin ∨ cfg.rangeMax < value) := by
  simp [ChannelConfig.outOfRange, Role.scaled_iff]

theorem Channel.tested_eq (ch : Channel) (cfg : ChannelConfig) (raw value : Int) :
    let clipped := decide (cfg.clip ≤ raw.natAbs)
    let run := if ch.lastRaw = some raw then (if ch.flatRun < 4096 then ch.flatRun + 1 else 4096) else 1
    let counted := { ch.withLast raw value with
      clipCount := if clipped then sat16 ch.clipCount else ch.clipCount, flatRun := run }
    ch.tested cfg raw value =
      if (cfg.role ≠ .vibration ∧ cfg.role ≠ .sound) ∧ (value < cfg.rangeMin ∨ cfg.rangeMax < value) then
        ({ counted with status := .fault .range }, .faulted)
      else if 16 ≤ cfg.flat ∧ cfg.flat ≤ run then ({ counted with status := .fault .flat }, .faulted)
      else ({ counted with status := .ok }, .published clipped) := by
  simp only [Channel.tested, ChannelConfig.outOfRange_iff]
  rfl

/-- The engineering value of a scaled role, the clamp written as bounds (R28). -/
theorem ChannelConfig.engineering_of_scaled {cfg : ChannelConfig} (h : cfg.role.scaled = true) (raw : Int) :
    cfg.engineering raw =
      max (-2147483648) (min 2147483647 (Int.fdiv (raw * cfg.gain) 65536 + cfg.offset)) := by
  rw [ChannelConfig.engineering, if_pos h, clamp32, clamp, floorDiv]
  split
  · omega
  · split <;> omega

/-! ## A lost channel (R26, R31) -/

theorem requiredA_of_run {s : State} {r : SpinRun} (h : s.runIn.run = some r) (c : Nat) :
    s.requiredA c = true ↔ c = r.torqueChannel ∨ c = r.oilChannel := by
  simp [State.requiredA, h, eq_comm (a := c)]

theorem requiredB_of_run {s : State} {r : LeakRun} (h : s.leak.run = some r) (c : Nat) :
    s.requiredB c = true ↔ c = r.channel := by
  simp [State.requiredB, h, eq_comm (a := c)]

theorem engineWithdraw_frame (s : State) (c : Nat) : (engineWithdraw s c).channels = s.channels ∧
    (engineWithdraw s c).runIn = s.runIn ∧ (engineWithdraw s c).leak = s.leak := by
  unfold engineWithdraw
  split <;> exact ⟨rfl, rfl, rfl⟩

theorem runInChannelLost_of_not_required {s : State} {c : Nat}
    (h : ∀ r, s.runIn.run = some r → r.phase.supervised = false ∨ (c ≠ r.torqueChannel ∧ c ≠ r.oilChannel)) :
    runInChannelLost s c = s := by
  unfold runInChannelLost
  split
  · next hreq =>
    refine takeOutcome_of_unsupervised (fun r hr => (h r hr).resolve_right fun hne => ?_) _
    rcases (requiredA_of_run hr c).1 hreq with hc | hc
    exacts [hne.1 hc, hne.2 hc]
  · rfl

theorem leakChannelLost_of_not_required {s : State} {c : Nat}
    (h : ∀ r, s.leak.run = some r → r.phase.testing = false ∨ c ≠ r.channel) : leakChannelLost s c = s := by
  unfold leakChannelLost
  split
  · next hreq =>
    exact takeLeakOutcome_of_not_testing
      (fun r hr => (h r hr).resolve_right fun hne => hne ((requiredB_of_run hr c).1 hreq)) _ _
  · rfl

/-- What an outcome taken by the Run-in Sequencer leaves alone. -/
theorem takeOutcome_frame (s : State) (o : RuninOutcome) : (takeOutcome s o).channels = s.channels ∧
    (takeOutcome s o).angle = s.angle ∧ (takeOutcome s o).leak = s.leak := by
  by_cases h : ∃ r, s.runIn.run = some r ∧ r.phase.supervised = true
  · obtain ⟨r, hr, hs⟩ := h
    obtain ⟨hch, hangle, hleak, -⟩ := windowClosed_frame s r.phase
    rw [takeOutcome_eq hr hs]
    exact ⟨hch, hangle, hleak⟩
  · rw [takeOutcome_of_unsupervised (by simpa using h)]
    exact ⟨rfl, rfl, rfl⟩

theorem onlyLeakAndSlots.refl (s : State) : onlyLeakAndSlots s s := rfl

theorem issueValve_onlyLeakAndSlots (s : State) (kind : ValveKind) : onlyLeakAndSlots s (issueValve s kind) := by
  unfold issueValve placeValve
  dsimp only
  repeat' split
  all_goals rfl

/-- What an outcome taken by the Leak Sequencer leaves alone. -/
theorem takeLeakOutcome_onlyLeakAndSlots (s : State) (o : LeakOutcome) (result : Option LeakResult) :
    onlyLeakAndSlots s (takeLeakOutcome s o result) := by
  by_cases h : ∃ r, s.leak.run = some r ∧ r.phase.testing = true
  · obtain ⟨r, hr, ht⟩ := h
    rw [takeLeakOutcome_of_testing hr ht]
    exact (issueValve_onlyLeakAndSlots _ _).trans rfl
  · rw [takeLeakOutcome_of_not_testing (by simpa using h)]
    exact .refl s

theorem leakChannelLost_onlyLeakAndSlots (s : State) (c : Nat) : onlyLeakAndSlots s (leakChannelLost s c) := by
  unfold leakChannelLost
  split
  · exact takeLeakOutcome_onlyLeakAndSlots s _ _
  · exact .refl s

theorem runInChannelLost_frame (s : State) (c : Nat) : (runInChannelLost s c).channels = s.channels ∧
    (runInChannelLost s c).angle = s.angle ∧ (runInChannelLost s c).leak = s.leak := by
  unfold runInChannelLost
  split
  · exact takeOutcome_frame s _
  · exact ⟨rfl, rfl, rfl⟩

theorem channelLost_channels (s : State) (c : Nat) : (channelLost s c).channels = s.channels := by
  have hleak := congrArg State.channels (leakChannelLost_onlyLeakAndSlots (runInChannelLost (engineWithdraw s c) c) c)
  have hrun := (runInChannelLost_frame (engineWithdraw s c) c).1
  exact hleak.trans (hrun.trans (engineWithdraw_frame s c).1)

/-- What a value delivered to a loaded channel becomes (R23, R28). -/
theorem channelValue_of_loaded {s : State} {c : Nat} {ch : Channel} {cfg : ChannelConfig}
    (h : s.channels[c]? = some ch) (hcfg : ch.config = some cfg) (raw : Int) (filled : Bool) :
    channelValue s c raw filled =
      let s1 := updateChannel s c (fun _ => (ch.take raw filled).1)
      match (ch.take raw filled).2 with
      | .dropped | .recorded => (s1, none)
      | .faulted => (channelFaulted s1 c, none)
      | .published clipped =>
        let p : Published := { channel := c, role := cfg.role, bay := cfg.bay, raw := raw,
                               value := cfg.engineering raw, clipped := clipped, filled := filled }
        (publish s1 p, some p) := by
  simp only [channelValue, h, hcfg, updateChannel_const h] <;> rfl

/-- Settles O28. -/
theorem channelTakesAValueByItsTests : Obligations.ChannelTakesAValueByItsTests := by
  refine ⟨fun ch raw filled h => Channel.take_dropped h raw filled,
    fun ch cfg kind raw filled h hs => Channel.take_recorded h hs raw filled,
    fun ch cfg raw h hd hf => ⟨Channel.take_active h hd hf raw true, fun hdiag => ?_, fun hdiag => ?_⟩,
    fun cfg raw h => if_neg ?_,
    fun cfg raw hv hs => ChannelConfig.engineering_of_scaled ((Role.scaled_iff _).2 ⟨hv, hs⟩) raw,
    fun s c raw filled => ⟨fun h => ?_, fun ch cfg hch hcfg => ?_⟩, fun s c => ?_⟩
  · rw [Channel.take_active h hd hf, if_neg Bool.false_ne_true, if_neg (by simp [hdiag])]
    rfl
  · rw [Channel.take_active h hd hf, if_neg Bool.false_ne_true, if_pos hdiag]
    exact Channel.tested_eq ch cfg raw _
  · rw [Role.scaled_iff]
    tauto
  · unfold channelValue
    cases hch : s.channels[c]? with
    | none => rfl
    | some ch =>
      have hcfg : ch.config = none := by simpa [hch] using h
      simp only [hcfg]
  · rw [channelValue_of_loaded hch hcfg]
    refine ⟨?_, fun hfate => ?_, fun clipped hfate => ?_⟩
    · rintro (hfate | hfate) <;> simp only [hfate]
    · simp only [hfate]
      rfl
    · simp only [hfate]
      rfl
  · obtain ⟨-, hrun, hkept⟩ := engineWithdraw_frame s c
    have htold := engineWithdraw_jobStep s c
    have hleak : (runInChannelLost (engineWithdraw s c) c).leak = s.leak := (runInChannelLost_frame _ _).2.2.trans hkept
    refine ⟨channelLost_jobStep s c, channelLost_channels s c, runInChannelLost (engineWithdraw s c) c,
      fun r st hr hsup hc hst => ?_, fun h => runInChannelLost_of_not_required (by rwa [hrun]),
      fun r st hr htest hc hst => ?_, fun h => leakChannelLost_of_not_required (by rwa [hleak])⟩
    · rw [← hrun] at hr
      rw [runInChannelLost, if_pos ((requiredA_of_run hr c).2 hc)]
      exact takeOutcome_taken hr hsup (htold.stand.trans hst) _
    · rw [← hleak] at hr
      rw [channelLost, leakChannelLost, if_pos ((requiredB_of_run hr c).2 hc)]
      exact takeLeakOutcome_taken hr htest ((htold.trans (runInChannelLost_jobStep _ c)).stand.trans hst) _ _

end Sys2Proof.Machine
end

section
/-! A copied set at its entry (R19 to R22) and its delivery (R23). -/
namespace Sys2Proof.Machine

/-! ## The form of a set (R19) -/

theorem readSet_of_short {cfg : StreamConfig} {payload : List Byte} (h : payload.length < 4) :
    readSet cfg payload = none := by
  match payload with
  | [] | [_] | [_, _] | [_, _, _] => rfl
  | _ :: _ :: _ :: _ :: _ => simp at h; omega

/-- What R19 requires of a set of this flags byte and value count at an entry. -/
def setForm (cfg : StreamConfig) (flags n : Byte) (length : Nat) : Prop :=
  n.toNat = cfg.count ∧ flags.getLsbD 0 = cfg.hasPosition ∧ (flags.getLsbD 1 = true → cfg.hasIndex = true) ∧
    length = 2 * n.toNat + (if flags.getLsbD 0 = true then 4 else 0) + (if flags.getLsbD 1 = true then 4 else 0)

theorem readSet_eq_none {cfg : StreamConfig} {num q flags n : Byte} {rest : List Byte} :
    readSet cfg (num :: q :: flags :: n :: rest) = none ↔ ¬setForm cfg flags n rest.length := by
  simp only [readSet, setForm, ite_eq_right_iff, reduceCtorEq, imp_false]

theorem signed16_decNat_encS2 {v : Int} (h : -32768 ≤ v ∧ v ≤ 32767) : signed16 (decNat (encS2 v)) = v := by
  have hlt : (v % 65536).toNat < 65536 := by omega
  rw [encS2, decNat_enc2 hlt]
  exact (signed16_iff hlt).2 ⟨h.1, h.2, rfl⟩

theorem rawValues_encS2 {values : List Int} (h : ∀ v ∈ values, -32768 ≤ v ∧ v ≤ 32767) :
    rawValues (values.flatMap encS2) = values := by
  induction values with
  | nil => rfl
  | cons v values ih =>
    obtain ⟨hv, hvs⟩ := List.forall_mem_cons.1 h
    change signed16 (decNat (encS2 v)) :: rawValues (values.flatMap encS2) = _
    rw [signed16_decNat_encS2 hv, ih hvs]

theorem encS2_flatMap_length (values : List Int) : (values.flatMap encS2).length = 2 * values.length := by
  induction values with
  | nil => rfl
  | cons v values ih => simp [ih]; omega

theorem posOf_enc4 (w : Pos) (rest : List Byte) : posOf (enc4 w.toNat ++ rest) = w := by
  rw [posOf, List.take_left' (enc4_length _), ← encNat_four, decNat_encNat]
  apply BitVec.eq_of_toNat_eq
  have := w.isLt
  simp
  omega

/-- A set that meets R19's requirements, read field by field. -/
theorem readSet_of_form {cfg : StreamConfig} {flags n : Byte} {rest : List Byte} (h : setForm cfg flags n rest.length)
    (num q : Byte) : readSet cfg (num :: q :: flags :: n :: rest) = some (q.toNat,
      { values := rawValues (rest.take (2 * n.toNat)),
        position := if flags.getLsbD 0 then some (posOf (rest.drop (2 * n.toNat))) else none,
        capture := if flags.getLsbD 1 then
            some (posOf (if flags.getLsbD 0 then (rest.drop (2 * n.toNat)).drop 4 else rest.drop (2 * n.toNat)))
          else none }) := if_pos h

/-- The bytes of a position or of a capture that is there. -/
def wordBytes : Option Pos → List Byte
  | some w => enc4 w.toNat
  | none => []

/-- A set reads as what its bytes were built from. -/
theorem readSet_encoded {cfg : StreamConfig} {flags n : Byte} {values : List Int} {position capture : Option Pos}
    (hv : ∀ v ∈ values, -32768 ≤ v ∧ v ≤ 32767) (hlen : values.length = n.toNat) (hn : n.toNat = cfg.count)
    (hpos : flags.getLsbD 0 = position.isSome) (hcap : flags.getLsbD 1 = capture.isSome)
    (hcfg : position.isSome = cfg.hasPosition) (hidx : capture ≠ none → cfg.hasIndex = true) (num q : Byte) :
    readSet cfg (num :: q :: flags :: n :: (values.flatMap encS2 ++ wordBytes position ++ wordBytes capture)) =
      some (q.toNat, { values := values, position := position, capture := capture }) := by
  have hl : (values.flatMap encS2).length = 2 * n.toNat := by rw [encS2_flatMap_length, hlen]
  have hform : setForm cfg flags n (values.flatMap encS2 ++ wordBytes position ++ wordBytes capture).length := by
    refine ⟨hn, hpos.trans hcfg, fun h => hidx (Option.isSome_iff_ne_none.1 (hcap ▸ h)), ?_⟩
    rw [hpos, hcap]
    cases position <;> cases capture <;> simp [wordBytes, hl]
  rw [readSet_of_form hform, List.append_assoc, List.take_left' hl, List.drop_left' hl, rawValues_encS2 hv, hpos, hcap]
  rcases position with _ | p <;> rcases capture with _ | c
  · rfl
  · simpa [wordBytes] using posOf_enc4 c []
  · simpa [wordBytes] using posOf_enc4 p []
  · have hdrop : (enc4 p.toNat ++ enc4 c.toNat).drop 4 = enc4 c.toNat := List.drop_left' (enc4_length _)
    simp only [wordBytes, posOf_enc4, hdrop]
    simpa using posOf_enc4 c []

/-! ## One stream's steps -/

/-- From `s` to `t` only what the jobs may write, and the runtime of stream `i`, has changed. -/
structure StreamStep (i : Nat) (s t : State) : Prop where
  job : JobStep (s.setStreams t.streams) t
  others : ∀ j, j ≠ i → t.streams[j]? = s.streams[j]?

theorem JobStep.stream {s t : State} (h : JobStep s t) (i : Nat) : StreamStep i s t where
  job := { h with streams := rfl }
  others _ _ := by rw [h.streams]

theorem StreamStep.trans {i : Nat} {s t u : State} (h : StreamStep i s t) (k : StreamStep i t u) :
    StreamStep i s u where
  job :=
    { pins := k.job.pins.trans h.job.pins
      timeBase := k.job.timeBase.trans h.job.timeBase
      ring := k.job.ring.trans h.job.ring
      stand := k.job.stand.trans h.job.stand
      reports := k.job.reports.trans h.job.reports
      loader := k.job.loader.trans h.job.loader
      requests := k.job.requests.trans h.job.requests
      pending := k.job.pending.trans h.job.pending
      streams := rfl
      channels := k.job.channels.trans h.job.channels
      units := k.job.units.trans h.job.units
      tables := k.job.tables.trans h.job.tables
      records := k.job.records.trans h.job.records
      settings := k.job.settings.trans h.job.settings
      replies := k.job.replies.trans h.job.replies
      sent := k.job.sent.trans h.job.sent }
  others j hj := (k.others j hj).trans (h.others j hj)

theorem updateStream_streamStep (s : State) (i : Nat) (f : StreamEntry → StreamEntry) :
    StreamStep i s (updateStream s i f) where
  job := .refl _
  others j hj := by simp [updateStream, modifyAt_getElem?, hj.symm]

theorem updateStreamRun_streamStep (s : State) (i : Nat) (f : StreamRun → StreamRun) :
    StreamStep i s (updateStreamRun s i f) := updateStream_streamStep s i _

/-- What a delivery leaves before the set becomes the last delivered one (R23). -/
def followed (s : State) (i : Nat) (cfg : StreamConfig) (set : SampleSet) (filled : Bool) : State :=
  let given := deliverValues s filled cfg.binding set.values
  match set.position with
  | some pos => if s.angleSource = some i then angleSet given.1 pos set.capture filled given.2 else given.1
  | none => given.1

theorem deliver_eq (s : State) (i : Nat) (cfg : StreamConfig) (set : SampleSet) (filled : Bool) :
    deliver s i cfg set filled = updateStreamRun (followed s i cfg set filled) i
      (fun r => { r with last := some { values := set.values, position := set.position } }) := rfl

theorem followed_jobStep (s : State) (i : Nat) (cfg : StreamConfig) (set : SampleSet) (filled : Bool) :
    JobStep s (followed s i cfg set filled) := by
  have h := deliverValues_jobStep s filled cfg.binding set.values
  unfold followed
  dsimp only
  split
  · exact jobStep_ite (h.trans (angleSet_jobStep _ _ _ _ _)) h
  · exact h

theorem deliver_streamStep (s : State) (i : Nat) (cfg : StreamConfig) (set : SampleSet) (filled : Bool) :
    StreamStep i s (deliver s i cfg set filled) := by
  rw [deliver_eq]
  exact ((followed_jobStep s i cfg set filled).stream i).trans (updateStreamRun_streamStep _ i _)

theorem acceptSet_streamStep (s : State) (i : Nat) (cfg : StreamConfig) (q : Nat) (set : SampleSet) :
    StreamStep i s (acceptSet s i cfg q set) :=
  (updateStreamRun_streamStep s i _).trans (deliver_streamStep _ i cfg set false)

theorem fillBefore_streamStep (s : State) (i : Nat) (cfg : StreamConfig) (run : StreamRun) (set : SampleSet) :
    StreamStep i s (fillBefore s i cfg run set) := by
  unfold fillBefore
  split
  · exact (JobStep.refl s).stream i
  · exact (updateStreamRun_streamStep s i _).trans (deliver_streamStep _ i cfg _ true)

theorem sequenceCheck_streamStep (s : State) (i : Nat) (cfg : StreamConfig) (run : StreamRun) (q : Nat)
    (set : SampleSet) : StreamStep i s (sequenceCheck s i cfg run q set) := by
  unfold sequenceCheck
  repeat' split
  · exact acceptSet_streamStep s i cfg q set
  · exact acceptSet_streamStep s i cfg q set
  · exact (fillBefore_streamStep s i cfg run set).trans (acceptSet_streamStep _ i cfg q set)
  · exact updateStreamRun_streamStep s i _
  · exact ((updateStreamRun_streamStep s i _).trans ((gapEvent_jobStep _ i).stream i)).trans
      (acceptSet_streamStep _ i cfg q set)

theorem intake_streamStep (s : State) (i : Nat) (cfg : StreamConfig) (payload : List Byte) :
    StreamStep i s (intake s i cfg payload) := by
  unfold intake
  repeat' split
  · exact (JobStep.refl s).stream i
  · exact updateStreamRun_streamStep s i _
  · exact sequenceCheck_streamStep s i cfg _ _ _
  · exact acceptSet_streamStep s i cfg _ _
  · exact acceptSet_streamStep s i cfg _ _

/-! ## The judgement of a set (R19 to R21) -/

theorem intake_malformed {s : State} {i : Nat} {e : StreamEntry} {cfg : StreamConfig} {payload : List Byte}
    (he : s.streams[i]? = some e) (h : readSet cfg payload = none) : intake s i cfg payload =
      updateStreamRun s i (fun r => { r with malformed := sat16 r.malformed }) := by
  simp only [intake, he, h]

theorem intake_fresh {s : State} {i : Nat} {e : StreamEntry} {cfg : StreamConfig} {payload : List Byte} {q : Nat}
    {set : SampleSet} (he : s.streams[i]? = some e) (h : readSet cfg payload = some (q, set))
    (hlive : e.run.state ≠ .live) : intake s i cfg payload = acceptSet s i cfg q set := by
  simp only [intake, he, h]
  cases hs : e.run.state with
  | live => exact absurd hs hlive
  | waiting | stale => rfl

theorem intake_live {s : State} {i : Nat} {e : StreamEntry} {cfg : StreamConfig} {payload : List Byte} {q x : Nat}
    {set : SampleSet} (he : s.streams[i]? = some e) (h : readSet cfg payload = some (q, set))
    (hlive : e.run.state = .live) (hx : e.run.expected = some x) : intake s i cfg payload =
      if q = x then acceptSet s i cfg q set
      else if q = (x + 1) % 256 then acceptSet (fillBefore s i cfg e.run set) i cfg q set
      else if q = (x + 255) % 256 then updateStreamRun s i (fun r => { r with duplicate := sat16 r.duplicate })
      else acceptSet (gapEvent (updateStreamRun s i (fun r => { r with gap := sat16 r.gap })) i) i cfg q set := by
  simp only [intake, he, h, hlive, sequenceCheck, hx]

/-! ## The runtime after a set -/

theorem updateStreamRun_streams {s : State} {i : Nat} {e : StreamEntry} (he : s.streams[i]? = some e)
    (f : StreamRun → StreamRun) : (updateStreamRun s i f).streams[i]? = some { e with run := f e.run } := by
  simp [updateStreamRun, updateStream, modifyAt_getElem?, he]

theorem deliver_streams {s : State} {i : Nat} {e : StreamEntry} (he : s.streams[i]? = some e) (cfg : StreamConfig)
    (set : SampleSet) (filled : Bool) : (deliver s i cfg set filled).streams[i]? =
      some { e with run := { e.run with last := some { values := set.values, position := set.position } } } := by
  rw [← (followed_jobStep s i cfg set filled).streams] at he
  exact updateStreamRun_streams he _

/-- The runtime of an accepted set's stream (R20, R21, R23). -/
def StreamRun.taken (r : StreamRun) (q : Nat) (set : SampleSet) (now : Time) : StreamRun :=
  { r.acceptedNow q now with last := some { values := set.values, position := set.position } }

theorem acceptSet_streams {s : State} {i : Nat} {e : StreamEntry} (he : s.streams[i]? = some e) (cfg : StreamConfig)
    (q : Nat) (set : SampleSet) :
    (acceptSet s i cfg q set).streams[i]? = some { e with run := e.run.taken q set s.timeBase } :=
  deliver_streams (updateStreamRun_streams he _) cfg set false

theorem fillBefore_streams {s : State} {i : Nat} {e : StreamEntry} {last : DeliveredSet}
    (he : s.streams[i]? = some e) (hlast : e.run.last = some last) (cfg : StreamConfig) (set : SampleSet) :
    (fillBefore s i cfg e.run set).streams[i]? = some { e with run := { e.run with
      filled := sat16 e.run.filled,
      last := some { values := (filledSet last set).values, position := (filledSet last set).position } } } := by
  rw [fillBefore, hlast]
  exact deliver_streams (updateStreamRun_streams he _) cfg (filledSet last set) true

/-- Settles O29. -/
theorem setsAreJudgedByTheirSequence : Obligations.SetsAreJudgedByTheirSequence := by
  refine ⟨fun cfg payload h => readSet_of_short h, fun cfg num q flags n rest => readSet_eq_none.trans ?_,
    fun cfg num q flags n values position capture hv hlen hn hpos hcap hcfg hidx =>
      readSet_encoded hv hlen hn hpos hcap hcfg hidx num q,
    fun last new => ⟨rfl, rfl, fun p q hp hq => ?_⟩, fun s i e cfg payload he => ?_, fun s i e cfg payload he => ?_,
    fun s i => ⟨fun h => if_pos h, fun h => if_neg h⟩, fun s i cfg set filled => rfl,
    fun s filled c raw bindings raws => ⟨rfl, ?_, rfl, rfl⟩⟩
  · simp only [setForm, not_and_or, Classical.not_imp, Bool.not_eq_true, ne_eq]
  · simp only [filledSet, hp, hq]
    rfl
  · obtain ⟨hjob, hothers⟩ := intake_streamStep s i cfg payload
    refine ⟨hjob, hothers, intake_malformed he, fun q set h => ⟨intake_fresh he h, fun x hl hx => ?_⟩⟩
    rw [intake_live he h hl hx]
    refine ⟨fun h1 => if_pos h1, fun last h1 h2 hlast => ?_, fun h1 h2 h3 => ?_, fun h1 h2 h3 => ?_⟩
    · rw [if_neg h1, if_pos h2, fillBefore, hlast]
      rfl
    · rw [if_neg h1, if_neg h2, if_pos h3]
      rfl
    · rw [if_neg h1, if_neg h2, if_neg h3]
      rfl
  · intro after r taken q set h
    refine ⟨fun hl => ?_, fun x hl hx => ⟨fun h1 => ?_, fun h1 h2 hlast => ?_, fun h1 h2 h3 => ?_⟩⟩
    · simp only [after, intake_fresh he h hl]
      exact acceptSet_streams he cfg q set
    · simp only [after, intake_live he h hl hx, if_pos h1]
      exact acceptSet_streams he cfg q set
    · simp only [after, intake_live he h hl hx, if_neg h1, if_pos h2]
      obtain ⟨last, hlast⟩ := Option.ne_none_iff_exists'.1 hlast
      have htime := (fillBefore_streamStep s i cfg e.run set).job.timeBase
      rw [acceptSet_streams (fillBefore_streams he hlast cfg set), htime]
      rfl
    · simp only [after, intake_live he h hl hx, if_neg h1, if_neg h2, if_neg h3]
      have hgap := gapEvent_jobStep (updateStreamRun s i fun r => { r with gap := sat16 r.gap }) i
      have he' := updateStreamRun_streams he fun r => { r with gap := sat16 r.gap }
      rw [← hgap.streams] at he'
      rw [acceptSet_streams he', hgap.timeBase]
      rfl
  · rcases bindings with _ | ⟨_ | c, bindings⟩ <;> rfl

end Sys2Proof.Machine
end

section
/-! STALE_TIMEOUT (R24): what a stream that goes STALE does to its channels, the Angle Unit and the sequencers. -/
namespace Sys2Proof.Machine

/-! ## The channels of a stream that is gone (R17, R24) -/

theorem Channel.gone_of_bound {ch : Channel} (ha : ch.acquire = true) (hf : ∀ kind, ch.status ≠ .fault kind) :
    ch.gone = { ch with status := .stale } := by
  unfold Channel.gone
  split
  · next kind hk => exact absurd hk (hf kind)
  · rw [if_pos ha]

theorem Channel.gone_of_kept {ch : Channel} (h : ch.acquire = false ∨ ∃ kind, ch.status = .fault kind) :
    ch.gone = ch := by
  unfold Channel.gone
  split
  · rfl
  · next hf =>
    rw [if_neg]
    rcases h with ha | ⟨kind, hk⟩
    · simp [ha]
    · exact absurd hk (hf kind)

theorem Channel.gone_gone (ch : Channel) : ch.gone.gone = ch.gone := by
  by_cases hk : ch.acquire = false ∨ ∃ kind, ch.status = .fault kind
  · rw [Channel.gone_of_kept hk, Channel.gone_of_kept hk]
  · simp only [not_or, Bool.not_eq_false, not_exists] at hk
    have h := Channel.gone_of_bound hk.1 hk.2
    rw [h]
    exact Channel.gone_of_bound (ch := { ch with status := .stale }) hk.1 (by simp)

theorem channelsGone_cons (s : State) (b : Option Nat) (bs : List (Option Nat)) : channelsGone s (b :: bs) =
    channelsGone (match b with | some c => updateChannel s c Channel.gone | none => s) bs := rfl

theorem channelsGone_eq (s : State) (bs : List (Option Nat)) :
    channelsGone s bs = s.setChannels (channelsGone s bs).channels := by
  induction bs generalizing s with
  | nil => rfl
  | cons b bs ih =>
    rw [channelsGone_cons, ih]
    cases b <;> rfl

theorem channelsGone_getElem? (s : State) (bs : List (Option Nat)) (c : Nat) : (channelsGone s bs).channels[c]? =
    s.channels[c]?.map (fun ch => if some c ∈ bs then ch.gone else ch) := by
  induction bs generalizing s with
  | nil => simp [channelsGone]
  | cons b bs ih =>
    rw [channelsGone_cons, ih]
    rcases b with _ | d
    · simp
    · simp only [updateChannel, State.setChannels_channels, modifyAt_getElem?, List.mem_cons, Option.some.injEq]
      by_cases hd : d = c
      · subst hd
        simp [Function.comp_def, Channel.gone_gone]
      · simp [hd, Ne.symm hd]

/-! ## What each of the jobs leaves alone -/

theorem engineBreak_frame (s : State) : (engineBreak s).channels = s.channels ∧ (engineBreak s).angle = s.angle ∧
    (engineBreak s).leak = s.leak ∧ (engineBreak s).runIn = s.runIn := by
  unfold engineBreak
  split <;> exact ⟨rfl, rfl, rfl, rfl⟩

theorem runInStale_frame (s : State) (i : Nat) (cfg : StreamConfig) : (runInStale s i cfg).channels = s.channels ∧
    (runInStale s i cfg).angle = s.angle ∧ (runInStale s i cfg).leak = s.leak := by
  unfold runInStale
  repeat' split
  · exact ⟨rfl, rfl, rfl⟩
  · exact takeOutcome_frame s _
  · exact ⟨rfl, rfl, rfl⟩

theorem sourceGone_frame (s : State) (i : Nat) (cfg : StreamConfig) : (sourceGone s i cfg).channels = s.channels ∧
    (sourceGone s i cfg).angle = s.angle ∧ (sourceGone s i cfg).leak = s.leak := by
  unfold sourceGone
  dsimp only
  split
  · obtain ⟨hch, hangle, hleak, -⟩ := engineBreak_frame (s.setFreeCount (s.freeCount + 1))
    obtain ⟨hch', hangle', hleak'⟩ := runInStale_frame (engineBreak (s.setFreeCount (s.freeCount + 1))) i cfg
    exact ⟨hch'.trans hch, hangle'.trans hangle, hleak'.trans hleak⟩
  · obtain ⟨hch, hangle, hleak⟩ := runInStale_frame (s.setFreeCount (s.freeCount + 1)) i cfg
    obtain ⟨hch', hangle', hleak', -⟩ := engineBreak_frame (runInStale (s.setFreeCount (s.freeCount + 1)) i cfg)
    exact ⟨hch'.trans hch, hangle'.trans hangle, hleak'.trans hleak⟩

theorem leakStale_onlyLeakAndSlots (s : State) (cfg : StreamConfig) : onlyLeakAndSlots s (leakStale s cfg) := by
  unfold leakStale
  repeat' split
  · exact .refl s
  · exact takeLeakOutcome_onlyLeakAndSlots s _ _
  · exact .refl s

theorem StreamConfig.binds_iff (cfg : StreamConfig) (c : Nat) : cfg.binds c = true ↔ some c ∈ cfg.binding :=
  List.contains_iff_mem

/-! ## The outcomes of a stream that is gone (R93, R134) -/

/-- A run-in is on its way to STOPPING with ABORTED, STREAM. -/
def State.spinAborted (s : State) : Prop :=
  ∃ r, s.runIn.run = some r ∧ r.phase = .stopping ∧ r.pending = some (.aborted .stream)

/-- The run depends on stream `i`: it is the angle source, or it carries a required channel (R93). -/
def SpinRun.dependsOn (r : SpinRun) (source : Option Nat) (i : Nat) (cfg : StreamConfig) : Prop :=
  source = some i ∨ some r.torqueChannel ∈ cfg.binding ∨ some r.oilChannel ∈ cfg.binding

theorem runInStale_aborts {s : State} {r : SpinRun} {i : Nat} {cfg : StreamConfig} (hr : s.runIn.run = some r)
    (hs : r.phase.supervised = true) (hd : r.dependsOn s.angleSource i cfg) : (runInStale s i cfg).spinAborted := by
  have hcond : (decide (s.angleSource = some i) || cfg.binds r.torqueChannel || cfg.binds r.oilChannel) = true := by
    simpa [StreamConfig.binds_iff, or_assoc, SpinRun.dependsOn] using hd
  simp only [runInStale, hr, hcond, if_true, State.spinAborted]
  rw [takeOutcome_eq hr hs]
  dsimp only
  refine ⟨{ r with pending := some (.aborted .stream), phase := .stopping, phaseStart := s.timeBase }, ?_, rfl, rfl⟩
  split <;> rfl

theorem sourceGone_aborts {s : State} {r : SpinRun} {i : Nat} {cfg : StreamConfig} (hr : s.runIn.run = some r)
    (hs : r.phase.supervised = true) (hd : r.dependsOn s.angleSource i cfg) : (sourceGone s i cfg).spinAborted := by
  unfold sourceGone
  dsimp only
  split
  · have hrun := (engineBreak_frame (s.setFreeCount (s.freeCount + 1))).2.2.2
    have hstand := (engineBreak_jobStep (s.setFreeCount (s.freeCount + 1))).stand
    refine runInStale_aborts (r := r) (by rw [hrun]; exact hr) hs ?_
    simpa only [SpinRun.dependsOn, State.angleSource, hstand, State.setFreeCount_stand] using hd
  · have h := runInStale_aborts (s := s.setFreeCount (s.freeCount + 1)) hr hs hd
    unfold State.spinAborted
    rw [(engineBreak_frame _).2.2.2]
    exact h

theorem leakStale_aborts {s : State} {r : LeakRun} {cfg : StreamConfig} (hr : s.leak.run = some r)
    (ht : r.phase.testing = true) (hc : some r.channel ∈ cfg.binding) : ∃ r', (leakStale s cfg).leak.run = some r' ∧
      r'.phase = .vent ∧ r'.pending = some (.aborted .stream) := by
  simp only [leakStale, hr, (cfg.binds_iff r.channel).2 hc, if_true]
  rw [takeLeakOutcome_of_testing hr ht, issueValve_run]
  exact ⟨_, rfl, rfl, rfl⟩

/-- Losing the reference (R48, R92): no lock is left, and a run goes on but for its speed error. -/
theorem loseReference_frame (s : State) : (loseReference s).channels = s.channels ∧
    (loseReference s).leak = s.leak ∧ (∀ track, (loseReference s).angle.state ≠ .locked track) ∧
    ∀ r, s.runIn.run = some r → ∃ e, (loseReference s).runIn.run = some { r with errorStart := e } := by
  unfold loseReference
  split
  · simp only [runInLostLock, updateRun]
    split
    · next h => exact ⟨rfl, rfl, by simp, fun r hr => by simp_all⟩
    · next h => exact ⟨rfl, rfl, by simp, fun r hr => ⟨none, by simp_all⟩⟩
  · next h => exact ⟨rfl, rfl, h, fun r hr => ⟨r.errorStart, hr⟩⟩

/-! ## A stream goes STALE (R24) -/

/-- The Angle Unit's part of a stream that is gone: its reference and its history (R46, R48). -/
def angleGone (s : State) (i : Nat) : State :=
  if s.angleSource = some i then clearHistory (loseReference s) else s

theorem angleGone_jobStep (s : State) (i : Nat) : JobStep s (angleGone s i) :=
  jobStep_ite ((loseReference_jobStep s).trans (clearHistory_jobStep _)) (.refl s)

theorem angleGone_frame (s : State) (i : Nat) : (angleGone s i).channels = s.channels ∧
    (angleGone s i).leak = s.leak ∧
    ∀ r, s.runIn.run = some r → ∃ e, (angleGone s i).runIn.run = some { r with errorStart := e } := by
  obtain ⟨hch, hleak, -, hrun⟩ := loseReference_frame s
  unfold angleGone
  split
  · exact ⟨hch, hleak, hrun⟩
  · exact ⟨rfl, rfl, fun r hr => ⟨r.errorStart, hr⟩⟩

theorem angleGone_of_source {s : State} {i : Nat} (h : s.angleSource = some i) :
    (∀ track, (angleGone s i).angle.state ≠ .locked track) ∧ (angleGone s i).angle.standstill = false ∧
      (angleGone s i).angle.history = [] ∧ (angleGone s i).angle.historyStart = none := by
  rw [angleGone, if_pos h]
  exact ⟨(loseReference_frame s).2.2.1, rfl, rfl, rfl⟩

/-- The Run-in Sequencer's and the Order Engine's part of a stream that is gone (R93, R110, R116). -/
def spinGone (s : State) (i : Nat) (cfg : StreamConfig) : State :=
  if s.angleSource = some i ∧ s.engine.window.isSome = true then sourceGone s i cfg else runInStale s i cfg

theorem spinGone_frame (s : State) (i : Nat) (cfg : StreamConfig) : (spinGone s i cfg).channels = s.channels ∧
    (spinGone s i cfg).angle = s.angle ∧ (spinGone s i cfg).leak = s.leak := by
  unfold spinGone
  split
  · exact sourceGone_frame s i cfg
  · exact runInStale_frame s i cfg

theorem spinGone_aborts {s : State} {r : SpinRun} {i : Nat} {cfg : StreamConfig} (hr : s.runIn.run = some r)
    (hs : r.phase.supervised = true) (hd : r.dependsOn s.angleSource i cfg) : (spinGone s i cfg).spinAborted := by
  unfold spinGone
  split
  · exact sourceGone_aborts hr hs hd
  · exact runInStale_aborts hr hs hd

theorem streamGone_eq (s : State) (i : Nat) (cfg : StreamConfig) :
    streamGone s i cfg = leakStale (spinGone (angleGone (channelsGone s cfg.binding) i) i cfg) cfg := rfl

theorem streamGone_channels (s : State) (i : Nat) (cfg : StreamConfig) :
    (streamGone s i cfg).channels = (channelsGone s cfg.binding).channels := by
  rw [streamGone_eq, leakStale_onlyLeakAndSlots _ cfg]
  exact (spinGone_frame _ i cfg).1.trans (angleGone_frame _ i).1

theorem streamGone_angle (s : State) (i : Nat) (cfg : StreamConfig) :
    (streamGone s i cfg).angle = (angleGone (channelsGone s cfg.binding) i).angle := by
  rw [streamGone_eq, leakStale_onlyLeakAndSlots _ cfg]
  exact (spinGone_frame _ i cfg).2.1

theorem streamGone_spinAborted {s : State} {r : SpinRun} {i : Nat} {cfg : StreamConfig} (hr : s.runIn.run = some r)
    (hs : r.phase.supervised = true) (hd : r.dependsOn s.angleSource i cfg) : (streamGone s i cfg).spinAborted := by
  have hkept : (channelsGone s cfg.binding).runIn = s.runIn := by rw [channelsGone_eq]; rfl
  have hstand := ((channelsGone_jobStep s cfg.binding).trans (angleGone_jobStep _ i)).stand
  obtain ⟨e, hrun⟩ := (angleGone_frame (channelsGone s cfg.binding) i).2.2 r (by rw [hkept, hr])
  have h : (spinGone (angleGone (channelsGone s cfg.binding) i) i cfg).spinAborted := by
    refine spinGone_aborts hrun hs ?_
    simpa only [SpinRun.dependsOn, State.angleSource, hstand] using hd
  rw [streamGone_eq, leakStale_onlyLeakAndSlots _ cfg]
  exact h

theorem streamGone_leakAborted {s : State} {r : LeakRun} {cfg : StreamConfig} (hr : s.leak.run = some r)
    (ht : r.phase.testing = true) (hc : some r.channel ∈ cfg.binding) (i : Nat) :
    ∃ r', (streamGone s i cfg).leak.run = some r' ∧ r'.phase = .vent ∧ r'.pending = some (.aborted .stream) := by
  have hkept : (channelsGone s cfg.binding).leak = s.leak := by rw [channelsGone_eq]; rfl
  have hleak := (spinGone_frame (angleGone (channelsGone s cfg.binding) i) i cfg).2.2.trans
    ((angleGone_frame (channelsGone s cfg.binding) i).2.1.trans hkept)
  rw [streamGone_eq]
  exact leakStale_aborts (by rw [hleak, hr]) ht hc

/-- A stream's stale timeout has run out: it is enabled and LIVE, and its last arrival lies that far back (R24). -/
theorem staleDue_iff {s : State} {i : Nat} {e : StreamEntry} (he : s.streams[i]? = some e) : s.staleDue i = true ↔
    ∃ cfg t, e.config = some cfg ∧ cfg.enable = true ∧ e.run.state = .live ∧ e.run.lastArrival = some t ∧
      cfg.stale ≤ elapsed s.timeBase t := by
  have hen : s.enabledStream i = e.enabled := by simp [State.enabledStream, he]
  unfold State.staleDue
  rw [hen, he]
  cases hcfg : e.enabled with
  | none =>
    simp only [Bool.false_eq_true, false_iff]
    rintro ⟨cfg, t, hc, henable, -⟩
    rw [StreamEntry.enabled_eq_some.2 ⟨hc, henable⟩] at hcfg
    cases hcfg
  | some cfg =>
    obtain ⟨hc, henable⟩ := StreamEntry.enabled_eq_some.1 hcfg
    cases hl : e.run.lastArrival <;> simp [hc, henable, hl]

theorem raise_pending {s : State} (h : s.notices.records.length = 14) (src : Source) (bay : Option Bay)
    (serial : Option Serial) (d : Detail) : ((raise s src bay serial d).notices.record src).occurrence ≠ none := by
  rw [raise, State.setNotices_notices, (s.notices.record_setRecord src _ h).1]
  unfold NoticeRecord.raised
  split <;> simp

/-- Stream `i` marked STALE (R24). -/
def markStale (s : State) (i : Nat) : State :=
  updateStreamRun s i (fun r => { r with state := .stale, expected := none })

theorem staleExpires_eq {s : State} {i : Nat} {e : StreamEntry} {cfg : StreamConfig} (he : s.streams[i]? = some e)
    (hcfg : e.config = some cfg) (hen : cfg.enable = true) :
    staleExpires s i = raise (streamGone (markStale s i) i cfg) .streamStale none none (.number i) := by
  simp only [staleExpires, State.enabledStream_eq_some.2 ⟨e, he, hcfg, hen⟩]
  rfl

/-- Settles O30. -/
theorem staleTimeoutEndsAStream : Obligations.StaleTimeoutEndsAStream := by
  refine ⟨fun s i e cfg t hheld he hcfg hen hlive harr hdue hlen => ⟨staleExpires s i, ?_, ?_⟩, fun s i e he h => ?_⟩
  · exact happens_of_whenDue (c := .staleTimeout i) (effect := fun s => staleExpires s i) rfl hheld
      ((staleDue_iff he).2 ⟨cfg, t, hcfg, hen, hlive, harr, hdue⟩)
  · rw [staleExpires_eq he hcfg hen]
    have hgone := streamGone_jobStep (markStale s i) i cfg
    obtain ⟨hjob, hothers⟩ := (updateStreamRun_streamStep s i _).trans
      ((hgone.trans (raise_jobStep _ .streamStale none none (.number i))).stream i)
    refine ⟨hjob, ?_, hothers, fun c ch hc => ?_, raise_pending (hgone.records.trans hlen) _ _ _ _, fun hsrc => ?_,
      fun r hr hs hd => streamGone_spinAborted (s := markStale s i) hr hs hd,
      fun r hr ht hc => streamGone_leakAborted (s := markStale s i) hr ht hc i⟩
    · exact (congrArg (·[i]?) hgone.streams).trans (updateStreamRun_streams he _)
    · have hu : ((streamGone (markStale s i) i cfg).channels)[c]? =
          some (if some c ∈ cfg.binding then ch.gone else ch) := by
        rw [streamGone_channels, channelsGone_getElem?]
        exact congrArg (Option.map _) hc
      refine ⟨fun hb ha hf => hu.trans ?_, fun hk => hu.trans ?_⟩
      · rw [if_pos hb, Channel.gone_of_bound ha hf]
      · split
        · next hb => rw [Channel.gone_of_kept (hk.resolve_left (not_not.2 hb))]
        · rfl
    · rw [raise, State.setNotices_angle, streamGone_angle]
      have hstand := (channelsGone_jobStep (markStale s i) cfg.binding).stand
      refine angleGone_of_source ?_
      rw [State.angleSource, hstand]
      exact hsrc
  · refine congrArg _ (whenDue_of_not_due (Bool.eq_false_iff.2 fun hdue => ?_) _)
    obtain ⟨cfg, t, hcfg, -, hlive, harr, hle⟩ := (staleDue_iff he).1 hdue
    rcases h with h | h
    · exact h hlive
    · exact absurd (h cfg t hcfg harr) (by omega)

end Sys2Proof.Machine
end

section
/-! Readers of records: what it means that a record reads back from its own fields, and how a reader of one record
becomes a reader of a list of them and of a request's arguments (R167, R176). -/

namespace Sys2Proof.Machine

/-- The reader `f`, on rows that `fit` their widths, reads exactly the records inside their values `R`, each from its
own `fields`. -/
def Reads {ρ α : Type} (fit : ρ → Prop) (f : ρ → Option α) (fields : α → ρ) (R : α → Prop) : Prop :=
  ∀ row x, fit row ∧ f row = some x ↔ row = fields x ∧ R x

/-- A list is read element by element. -/
theorem allOf_reads {ρ α : Type} {fit : ρ → Prop} {f : ρ → Option α} {fields : α → ρ} {R : α → Prop}
    (hf : Reads fit f fields R) :
    Reads (fun rows => ∀ row ∈ rows, fit row) (allOf f) (fun xs => xs.map fields) (fun xs => ∀ x ∈ xs, R x) := by
  intro rows xs
  rw [allOf_iff]
  induction xs generalizing rows with
  | nil => cases rows <;> simp
  | cons x xs ih =>
    cases rows with
    | nil => simp
    | cons row rows =>
      have hrow := hf row x
      have hrows := ih rows
      simp only [List.forall_mem_cons, List.forall₂_cons, List.map_cons, List.cons.injEq]
      tauto

theorem allOf_some {α β : Type} (g : α → β) (xs : List α) : allOf (fun x => some (g x)) xs = some (xs.map g) := by
  induction xs with
  | nil => rfl
  | cons x xs ih => simp [allOf, ih]

/-- A list of fields none of which has values that are refused. -/
theorem map_reads {ρ α : Type} {fit : ρ → Prop} {g : ρ → α} {fields : α → ρ} {R : α → Prop}
    (hg : Reads fit (fun row => some (g row)) fields R) (rows : List ρ) (xs : List α) :
    (∀ row ∈ rows, fit row) ∧ rows.map g = xs ↔ rows = xs.map fields ∧ ∀ x ∈ xs, R x := by
  rw [← allOf_reads hg rows xs, allOf_some, Option.some.injEq]

/-- The bytes of a list of records are those of its rows. -/
theorem flatMap_rows {ρ α : Type} {enc : ρ → List Byte} {fields : α → ρ} {bytes : α → List Byte}
    (h : ∀ x, enc (fields x) = bytes x) (xs : List α) : (xs.map fields).flatMap enc = xs.flatMap bytes := by
  simp [List.flatMap_map, h]

theorem fixedFields_iff {widths : List Nat} {f : List Nat → Req} {args : List Byte} {r : Req} :
    fixedFields widths f args = .ok r ↔ ∃ ns, Fits widths ns ∧ args = encFields widths ns ∧ f ns = r := by
  unfold fixedFields
  cases h : fieldsOf widths args with
  | none =>
    simp only [reduceCtorEq, false_iff]
    rintro ⟨ns, hfit, hargs, -⟩
    rw [fieldsOf_iff.2 ⟨hfit, hargs⟩] at h
    cases h
  | some ns =>
    obtain ⟨hfit, hargs⟩ := fieldsOf_iff.1 h
    simp only [Except.ok.injEq]
    refine ⟨fun hr => ⟨ns, hfit, hargs, hr⟩, fun ⟨ms, hfit', hargs', hr⟩ => ?_⟩
    rw [fieldsOf_iff.2 ⟨hfit', hargs'⟩] at h
    cases h
    exact hr

theorem fixedFields_legal {widths : List Nat} {f : List Nat → Req} {args : List Byte}
    (h : fixedFields widths f args ≠ .error .badRequest) :
    ∃ ns, Fits widths ns ∧ args = encFields widths ns ∧ fixedFields widths f args = .ok (f ns) := by
  unfold fixedFields at h ⊢
  split at h
  · next ns hns =>
    obtain ⟨hfit, hargs⟩ := fieldsOf_iff.1 hns
    exact ⟨ns, hfit, hargs, rfl⟩
  · exact absurd rfl h

/-- The record of a request whose arguments are one record (R167). -/
theorem fixedFields_record {α : Type} {widths : List Nat} {f : List Nat → Option α} {fields : α → List Nat}
    {R : α → Prop} (hf : Reads (Fits widths) f fields R) {mk : Option α → Req} (hmk : ∀ x y, mk x = mk y ↔ x = y)
    (args : List Byte) (x : α) :
    fixedFields widths (fun ns => mk (f ns)) args = .ok (mk (some x)) ↔ args = encFields widths (fields x) ∧ R x := by
  rw [fixedFields_iff]
  constructor
  · rintro ⟨ns, hfit, rfl, hx⟩
    obtain ⟨rfl, hR⟩ := (hf ns x).1 ⟨hfit, (hmk _ _).1 hx⟩
    exact ⟨rfl, hR⟩
  · rintro ⟨rfl, hR⟩
    obtain ⟨hfit, hx⟩ := (hf _ x).2 ⟨rfl, hR⟩
    exact ⟨fields x, hfit, rfl, by rw [hx]⟩

/-- The record of a request whose arguments are a 1-byte number and one record (R167). -/
theorem fixedFields_numbered {α : Type} {widths : List Nat} {f : List Nat → Option α} {fields : α → List Nat}
    {R : α → Prop} (hf : Reads (Fits widths) f fields R) {mk : Nat → Option α → Req}
    (hmk : ∀ i x j y, mk i x = mk j y ↔ i = j ∧ x = y) (args : List Byte) (i : Nat) (x : α) :
    fixedFields (1 :: widths) (fun ns => mk (ns.headD 0) (f ns.tail)) args = .ok (mk i (some x)) ↔
      args = enc1 i ++ encFields widths (fields x) ∧ i ≤ 255 ∧ R x := by
  rw [fixedFields_iff]
  constructor
  · rintro ⟨_ | ⟨n, ns⟩, hfit, rfl, hx⟩
    · exact hfit.elim
    · obtain ⟨hn, hns⟩ := (hmk _ _ _ _).1 hx
      obtain rfl : n = i := hn
      obtain ⟨rfl, hR⟩ := (hf ns x).1 ⟨hfit.2, hns⟩
      exact ⟨rfl, Nat.lt_succ_iff.1 hfit.1, hR⟩
  · rintro ⟨rfl, hi, hR⟩
    obtain ⟨hfit, hx⟩ := (hf _ x).2 ⟨rfl, hR⟩
    exact ⟨i :: fields x, ⟨Nat.lt_succ_iff.2 hi, hfit⟩, rfl, by simp [hx]⟩

/-- The first byte of the arguments of a numbered load is its number. -/
theorem getD_enc1 {n : Nat} (h : n < 256) (rest : List Byte) : ((enc1 n ++ rest).getD 0 0).toNat = n :=
  toNat_byteOf h

theorem fixedFields_numbered_legal {α : Type} {widths : List Nat} {f : List Nat → Option α} {mk : Nat → Option α → Req}
    {args : List Byte}
    (h : fixedFields (1 :: widths) (fun ns => mk (ns.headD 0) (f ns.tail)) args ≠ .error .badRequest) :
    ∃ x, fixedFields (1 :: widths) (fun ns => mk (ns.headD 0) (f ns.tail)) args = .ok (mk (args.getD 0 0).toNat x) := by
  obtain ⟨_ | ⟨n, ns⟩, hfit, hargs, hok⟩ := fixedFields_legal h
  · exact hfit.elim
  · refine ⟨f ns, hok.trans ?_⟩
    rw [hargs, encFields, encNat_one, getD_enc1 hfit.1]
    rfl

/-- A signed 2-byte field reads back as the number it was written from. -/
theorem signed16_toNat {z : Int} (h1 : -32768 ≤ z) (h2 : z ≤ 32767) : signed16 (z % 65536).toNat = z :=
  (signed16_iff (by omega)).2 ⟨h1, h2, rfl⟩

theorem toNat_signed16 {n : Nat} (h : n < 65536) : (signed16 n % 65536).toNat = n :=
  ((signed16_iff h).1 rfl).2.2.symm

/-- A signed 4-byte field reads back as the number it was written from. -/
theorem signed32_toNat {z : Int} (h1 : -2147483648 ≤ z) (h2 : z ≤ 2147483647) :
    signed32 (z % 4294967296).toNat = z :=
  (signed32_iff (by omega)).2 ⟨h1, h2, rfl⟩

theorem toNat_signed32 {n : Nat} (h : n < 4294967296) : (signed32 n % 4294967296).toNat = n :=
  ((signed32_iff h).1 rfl).2.2.symm

end Sys2Proof.Machine
end

section
/-! The records of fixed length (R25, R54, R56, R160) and the profile, a counted list of segments (R58): each reads back
from its own fields exactly inside its stated values. -/

namespace Sys2Proof.Machine

/-! ## The stand record (R54) -/

/-- The numbers of a stand record's fields, in the order of section 4.2. -/
def Stand.fields (r : Stand) : List Nat :=
  [r.angleSource, r.cpr, r.mode.code, r.tolerance, r.standstillWindow, r.driveNode, r.valveNode, r.refresh, r.stopRamp,
   r.stopTimeout, r.ventThreshold, r.ventTimeout, (r.defaultAmbient % 65536).toNat, r.patm]

/-- The stated values of a stand record's fields (R54). -/
def Stand.InRange (r : Stand) : Prop :=
  r.angleSource ≤ 15 ∧ 256 ≤ r.cpr ∧ r.cpr ≤ 65536 ∧ r.tolerance ≤ 255 ∧ r.standstillWindow ≤ 1023 ∧
  1 ≤ r.driveNode ∧ r.driveNode ≤ 15 ∧ 1 ≤ r.valveNode ∧ r.valveNode ≤ 15 ∧ 10 ≤ r.refresh ∧ r.refresh ≤ 100 ∧
  r.stopRamp ≤ 30000 ∧ 1000 ≤ r.stopTimeout ∧ r.stopTimeout ≤ 60000 ∧ r.ventThreshold ≤ 20000 ∧
  1000 ≤ r.ventTimeout ∧ r.ventTimeout ≤ 60000 ∧ -4000 ≤ r.defaultAmbient ∧ r.defaultAmbient ≤ 6000 ∧
  80000 ≤ r.patm ∧ r.patm ≤ 110000

theorem Stand.bytes_eq (r : Stand) : encFields standWidths r.fields = r.bytes := by
  simp [standWidths, Stand.fields, encFields, encNat_one, encNat_two, encNat_four, Stand.bytes, encS2]

theorem standOf_reads : Reads (Fits standWidths) standOf Stand.fields Stand.InRange := by
  intro ns r
  constructor
  · rintro ⟨hfit, h⟩
    unfold standOf at h
    split at h
    case h_2 => cases h
    next src cpr mode tol win drive valve refresh ramp stop threshold vent ambient patm =>
    cases hmode : angleModeOf mode with
    | none => simp only [hmode, reduceCtorEq] at h
    | some m =>
      simp only [hmode, Option.ite_none_right_eq_some, Option.some.injEq] at h
      obtain ⟨hin, rfl⟩ := h
      simp only [standWidths, Fits, Nat.reducePow, and_true] at hfit
      have hambient : ambient < 65536 := by omega
      constructor
      · simp only [Stand.fields, ← angleModeOf_iff.1 hmode, toNat_signed16 hambient]
      · simp only [Stand.InRange]
        omega
  · rintro ⟨rfl, hin⟩
    unfold Stand.InRange at hin
    have hs : signed16 (r.defaultAmbient % 65536).toNat = r.defaultAmbient := signed16_toNat (by omega) (by omega)
    constructor
    · simp only [standWidths, Stand.fields, Fits, Nat.reducePow, and_true]
      have hm : r.mode.code ≤ 1 := by cases r.mode <;> decide
      omega
    · simp only [standOf, Stand.fields, angleModeOf_iff.2 rfl, hs]
      rw [if_pos (by omega)]

/-! ## The variant record (R56) -/

/-- The numbers of a variant record's fields, in the order of section 4.3. -/
def Variant.fields (v : Variant) : List Nat :=
  [v.id, v.pinionTeeth, v.ringTeeth, v.profile, checksBits v.required, (v.oilLimit % 65536).toNat, v.speedTolerance,
   v.speedPersist, v.targetPressure, v.fillBand, v.fillTimeout, v.settleTime, v.measureTime, v.window, v.volume,
   v.leakLimit, v.coolingSpan, v.retestLimit, v.holdThreshold]

/-- The stated values of a variant record's fields (R56). -/
def Variant.InRange (v : Variant) : Prop :=
  1 ≤ v.id ∧ v.id ≤ 65535 ∧ 5 ≤ v.pinionTeeth ∧ v.pinionTeeth ≤ 60 ∧ 20 ≤ v.ringTeeth ∧ v.ringTeeth ≤ 99 ∧
  v.pinionTeeth < v.ringTeeth ∧ v.profile ≤ 255 ∧ -4000 ≤ v.oilLimit ∧ v.oilLimit ≤ 20000 ∧
  1 ≤ v.speedTolerance ∧ v.speedTolerance ≤ 200 ∧ 50 ≤ v.speedPersist ∧ v.speedPersist ≤ 5000 ∧
  5000 ≤ v.targetPressure ∧ v.targetPressure ≤ 150000 ∧ 100 ≤ v.fillBand ∧ v.fillBand ≤ 10000 ∧
  2 * v.fillBand < v.targetPressure ∧ 1000 ≤ v.fillTimeout ∧ v.fillTimeout ≤ 600000 ∧ v.settleTime ≤ 600000 ∧
  1000 ≤ v.measureTime ∧ v.measureTime ≤ 120000 ∧ 1 ≤ v.window ∧ v.window ≤ 256 ∧ 100 ≤ v.volume ∧
  v.volume ≤ 100000 ∧ v.leakLimit ≤ 65535 ∧ 60000 ≤ v.coolingSpan ∧ v.coolingSpan ≤ 14400000 ∧
  v.retestLimit ≤ 2 ∧ v.holdThreshold ≤ 15

/-- The widths of a variant record's fields, without the slot number before them. -/
def variantRecordWidths : List Nat := variantWidths.tail

theorem Variant.bytes_eq (v : Variant) : encFields variantRecordWidths v.fields = v.bytes := by
  unfold Variant.bytes
  simp only [variantRecordWidths, variantWidths, List.tail_cons, Variant.fields, encFields, encNat_one, encNat_two,
    encNat_four, encS2, List.append_assoc, List.append_nil]

theorem checksBits_le (c : Checks) : checksBits c ≤ 7 := by
  obtain ⟨runin, noise, leak⟩ := c
  cases runin <;> cases noise <;> cases leak <;> decide

theorem variantOf_reads : Reads (Fits variantRecordWidths) variantOf Variant.fields Variant.InRange := by
  intro ns v
  constructor
  · rintro ⟨hfit, h⟩
    unfold variantOf at h
    split at h
    case h_2 => cases h
    next id zp zr profile required oil tol persist target band fill settle measure window volume leak span retest
      hold =>
    cases hreq : checksOf required with
    | none => simp only [hreq, reduceCtorEq] at h
    | some c =>
      simp only [hreq, Option.ite_none_right_eq_some, Option.some.injEq] at h
      obtain ⟨hin, rfl⟩ := h
      simp only [variantRecordWidths, variantWidths, List.tail_cons, Fits, Nat.reducePow, and_true] at hfit
      have hoil : oil < 65536 := by omega
      constructor
      · simp only [Variant.fields, ← checksOf_iff.1 hreq, toNat_signed16 hoil]
      · simp only [Variant.InRange]
        omega
  · rintro ⟨rfl, hin⟩
    unfold Variant.InRange at hin
    have hs : signed16 (v.oilLimit % 65536).toNat = v.oilLimit := signed16_toNat (by omega) (by omega)
    constructor
    · simp only [variantRecordWidths, variantWidths, List.tail_cons, Variant.fields, Fits, Nat.reducePow, and_true]
      have hc := checksBits_le v.required
      omega
    · simp only [variantOf, Variant.fields, checksOf_iff.2 rfl, hs]
      rw [if_pos (by omega)]

/-! ## Channel configurations (R25) -/

/-- The numbers of a channel configuration's fields, in the order of section 2.5. -/
def ChannelConfig.fields (c : ChannelConfig) : List Nat :=
  [c.role.code, bayCode c.bay, (c.gain % 4294967296).toNat, (c.offset % 4294967296).toNat, c.clip, c.flat,
   (c.rangeMin % 4294967296).toNat, (c.rangeMax % 4294967296).toNat]

/-- The stated values of a channel configuration's fields (R25). -/
def ChannelConfig.InRange (c : ChannelConfig) : Prop :=
  (c.bay = none → c.role = .ambientTemp) ∧ -2147483648 ≤ c.gain ∧ c.gain ≤ 2147483647 ∧
  -2147483648 ≤ c.offset ∧ c.offset ≤ 2147483647 ∧ 1 ≤ c.clip ∧ c.clip ≤ 32767 ∧
  (c.flat = 0 ∨ (16 ≤ c.flat ∧ c.flat ≤ 4096)) ∧ -2147483648 ≤ c.rangeMin ∧ c.rangeMin ≤ c.rangeMax ∧
  c.rangeMax ≤ 2147483647

/-- The widths of a channel configuration's fields, without the channel number before them. -/
def channelRecordWidths : List Nat := channelWidths.tail

theorem ChannelConfig.bytes_eq (c : ChannelConfig) : encFields channelRecordWidths c.fields = c.bytes := by
  simp [channelRecordWidths, channelWidths, ChannelConfig.fields, encFields, encNat_one, encNat_two, encNat_four,
    ChannelConfig.bytes, encS4]

theorem Role.code_le (r : Role) : r.code ≤ 5 := by cases r <;> decide

theorem bayCode_le (b : Option Bay) : bayCode b ≤ 2 := by rcases b with _ | _ | _ <;> decide

/-- The bay byte of a channel in the role `r`: it names a bay, or it is 0 and the channel is AMBIENT_TEMP
(notes/assumptions/14.md). -/
theorem bayOf_channel_iff {n : Nat} {r : Role} {bay : Option Bay} :
    ((bayOf n).isSome ∨ (r = .ambientTemp ∧ n = 0)) ∧ bayOf n = bay ↔
      n = bayCode bay ∧ (bay = none → r = .ambientTemp) := by
  cases bay with
  | none =>
    simp only [bayCode, forall_const]
    constructor
    · rintro ⟨hsome | ⟨hr, hn⟩, hnone⟩
      · simp [hnone] at hsome
      · exact ⟨hn, hr⟩
    · rintro ⟨rfl, hr⟩
      exact ⟨.inr ⟨hr, rfl⟩, rfl⟩
  | some named =>
    rw [bayOf_iff]
    constructor
    · rintro ⟨-, hn⟩
      exact ⟨hn, nofun⟩
    · rintro ⟨hn, -⟩
      exact ⟨.inl (by simp [bayOf_iff.2 hn]), hn⟩

theorem channelConfigOf_reads :
    Reads (Fits channelRecordWidths) channelConfigOf ChannelConfig.fields ChannelConfig.InRange := by
  intro ns c
  constructor
  · rintro ⟨hfit, h⟩
    unfold channelConfigOf at h
    split at h
    case h_2 => cases h
    next role bay gain offset clip flat lo hi =>
    cases hrole : roleOf role with
    | none => simp only [hrole, reduceCtorEq] at h
    | some r =>
      simp only [hrole, Option.ite_none_right_eq_some, Option.some.injEq] at h
      obtain ⟨⟨hbay, hin⟩, rfl⟩ := h
      obtain ⟨hcode, hnone⟩ := bayOf_channel_iff.1 ⟨hbay, rfl⟩
      simp only [channelRecordWidths, channelWidths, List.tail_cons, Fits, Nat.reducePow, and_true] at hfit
      obtain ⟨-, -, hgain, hoffset, -, -, hlo, hhi⟩ := hfit
      constructor
      · simp only [ChannelConfig.fields, ← roleOf_iff.1 hrole, ← hcode, toNat_signed32 hgain, toNat_signed32 hoffset,
          toNat_signed32 hlo, toNat_signed32 hhi]
      · have h1 := signed32_bounds hgain
        have h2 := signed32_bounds hoffset
        have h3 := signed32_bounds hlo
        have h4 := signed32_bounds hhi
        refine ⟨hnone, ?_⟩
        dsimp only
        omega
  · rintro ⟨rfl, hnone, hin⟩
    obtain ⟨hbay, hcode⟩ := (bayOf_channel_iff (n := bayCode c.bay)).2 ⟨rfl, hnone⟩
    constructor
    · simp only [channelRecordWidths, channelWidths, List.tail_cons, ChannelConfig.fields, Fits, Nat.reducePow,
        and_true]
      have hr := c.role.code_le
      have hb := bayCode_le c.bay
      omega
    · have hgain : signed32 (c.gain % 4294967296).toNat = c.gain := signed32_toNat (by omega) (by omega)
      have hoffset : signed32 (c.offset % 4294967296).toNat = c.offset := signed32_toNat (by omega) (by omega)
      have hlo : signed32 (c.rangeMin % 4294967296).toNat = c.rangeMin := signed32_toNat (by omega) (by omega)
      have hhi : signed32 (c.rangeMax % 4294967296).toNat = c.rangeMax := signed32_toNat (by omega) (by omega)
      simp only [channelConfigOf, ChannelConfig.fields, roleOf_iff.2 rfl, hgain, hoffset, hlo, hhi]
      rw [if_pos ⟨hbay, by omega⟩, hcode]

/-! ## Notice settings (R160) -/

/-- The widths of SET_NOTICE's fields. -/
def settingsWidths : List Nat := [2, 1, 1, 1, 1, 1, 1, 1]

/-- The numbers of SET_NOTICE's fields. -/
def NoticeSettings.fields (x : NoticeSettings) : List Nat :=
  x.masked.toNat :: (if x.enable then 1 else 0) :: (x.groups.map Group.code ++ x.classes.map OutClass.code)

/-- Each order names every group or class once (R160). -/
def NoticeSettings.InRange (x : NoticeSettings) : Prop :=
  x.groups.length = 3 ∧ x.groups.Nodup ∧ x.classes.length = 3 ∧ x.classes.Nodup

theorem NoticeSettings.bytes_eq (x : NoticeSettings) (h : x.InRange) :
    encFields settingsWidths x.fields = enc2 x.masked.toNat ++ encBool x.enable ++
      x.groups.flatMap (fun g => enc1 g.code) ++ x.classes.flatMap (fun c => enc1 c.code) := by
  obtain ⟨hgroups, -, hclasses, -⟩ := h
  obtain ⟨g0, g1, g2, hg⟩ := List.length_eq_three.1 hgroups
  obtain ⟨c0, c1, c2, hc⟩ := List.length_eq_three.1 hclasses
  simp [settingsWidths, NoticeSettings.fields, hg, hc, encFields, encNat_one, encNat_two, encBool]

theorem Group.code_le (g : Group) : g.code ≤ 2 := by cases g <;> decide

theorem OutClass.code_le (c : OutClass) : c.code ≤ 2 := by cases c <;> decide

theorem groupOf_reads : Reads (fun _ => True) groupOf Group.code (fun _ => True) := by
  intro n g
  simp only [true_and, and_true, groupOf_iff]

theorem outClassOf_reads : Reads (fun _ => True) outClassOf OutClass.code (fun _ => True) := by
  intro n c
  simp only [true_and, and_true, outClassOf_iff]

theorem settingsOf_reads : Reads (Fits settingsWidths) settingsOf NoticeSettings.fields NoticeSettings.InRange := by
  intro ns x
  constructor
  · rintro ⟨hfit, h⟩
    unfold settingsOf at h
    split at h
    case h_2 => cases h
    next masked enable g0 g1 g2 c0 c1 c2 =>
    split at h
    case h_2 => cases h
    next on groups classes hon hgroups hclasses =>
    simp only [Option.ite_none_right_eq_some, Option.some.injEq] at h
    obtain ⟨⟨hmasked, hg, hc⟩, rfl⟩ := h
    obtain ⟨hgcodes, -⟩ := (allOf_reads groupOf_reads _ groups).1 ⟨fun _ _ => trivial, hgroups⟩
    obtain ⟨hccodes, -⟩ := (allOf_reads outClassOf_reads _ classes).1 ⟨fun _ _ => trivial, hclasses⟩
    have hglen := congrArg List.length hgcodes
    have hclen := congrArg List.length hccodes
    constructor
    · simp [NoticeSettings.fields, ← hgcodes, ← hccodes, boolOf_iff.1 hon, Nat.mod_eq_of_lt hmasked]
    · exact ⟨by simpa using hglen.symm, (allDistinct_iff _).1 hg, by simpa using hclen.symm, (allDistinct_iff _).1 hc⟩
  · rintro ⟨rfl, hglen, hg, hclen, hc⟩
    have hgroups : allOf groupOf (x.groups.map Group.code) = some x.groups :=
      ((allOf_reads groupOf_reads _ _).2 ⟨rfl, fun _ _ => trivial⟩).2
    have hclasses : allOf outClassOf (x.classes.map OutClass.code) = some x.classes :=
      ((allOf_reads outClassOf_reads _ _).2 ⟨rfl, fun _ _ => trivial⟩).2
    have hgd := (allDistinct_iff _).2 hg
    have hcd := (allDistinct_iff _).2 hc
    have hmasked : x.masked.toNat < 16384 := x.masked.isLt
    obtain ⟨masked, enable, groups, classes⟩ := x
    obtain ⟨g0, g1, g2, rfl⟩ := List.length_eq_three.1 hglen
    obtain ⟨c0, c1, c2, rfl⟩ := List.length_eq_three.1 hclen
    simp only [List.map_cons, List.map_nil] at hgroups hclasses
    constructor
    · simp only [settingsWidths, NoticeSettings.fields, List.map_cons, List.map_nil, List.cons_append, List.nil_append,
        Fits, Nat.reducePow, and_true]
      have := g0.code_le
      have := g1.code_le
      have := g2.code_le
      have := c0.code_le
      have := c1.code_le
      have := c2.code_le
      split <;> omega
    · simp only [settingsOf, NoticeSettings.fields, List.map_cons, List.map_nil, List.cons_append, List.nil_append,
        boolOf_iff.2 rfl, hgroups, hclasses, hgd, hcd, hmasked, and_self, if_true, BitVec.ofNat_toNat,
        BitVec.setWidth_eq]

/-! ## Profiles (R58) -/

/-- The numbers of a segment's fields, in the order of section 4.4. -/
def Segment.fields (g : Segment) : List Nat :=
  [(g.target % 65536).toNat, g.ramp, g.settle, g.hold, (g.load % 65536).toNat, g.torqueLimit, g.slot.getD 255]

/-- The stated values of a segment's fields (R58). -/
def Segment.InRange (g : Segment) : Prop :=
  -12000 ≤ g.target ∧ g.target ≤ 12000 ∧ g.ramp ≤ 60000 ∧ g.settle ≤ 10000 ∧ 100 ≤ g.hold ∧ g.hold ≤ 600000 ∧
  -5000 ≤ g.load ∧ g.load ≤ 5000 ∧ 1 ≤ g.torqueLimit ∧ g.torqueLimit ≤ 10000 ∧ ∀ n, g.slot = some n → n ≤ 254

theorem Segment.bytes_eq (g : Segment) : encFields segmentWidths g.fields = g.bytes := by
  simp [segmentWidths, Segment.fields, encFields, encNat_one, encNat_two, encNat_four, Segment.bytes, encS2, encNone]

theorem segmentOf_reads : Reads (Fits segmentWidths) segmentOf Segment.fields Segment.InRange := by
  intro ns g
  constructor
  · rintro ⟨hfit, h⟩
    unfold segmentOf at h
    split at h
    case h_2 => cases h
    next target ramp settle hold load limit slot =>
    simp only [Option.ite_none_right_eq_some, Option.some.injEq] at h
    obtain ⟨hin, rfl⟩ := h
    simp only [segmentWidths, Fits, Nat.reducePow, and_true] at hfit
    have htarget : target < 65536 := by omega
    have hload : load < 65536 := by omega
    have hslot : slot < 256 := by omega
    obtain ⟨hnone, hbyte⟩ := (noneOr_iff hslot).1 rfl
    constructor
    · simp only [Segment.fields, ← hbyte, toNat_signed16 htarget, toNat_signed16 hload]
    · exact ⟨hin.1, by tauto⟩
  · rintro ⟨rfl, h1, h2, h3, h4, h5, h6, h7, h8, h9, h10, hnone⟩
    have hslot : g.slot.getD 255 < 256 := by
      cases hs : g.slot with
      | none => decide
      | some n => exact Nat.lt_of_le_of_lt (hnone n hs) (by decide)
    have htarget : signed16 (g.target % 65536).toNat = g.target := signed16_toNat (by omega) (by omega)
    have hload : signed16 (g.load % 65536).toNat = g.load := signed16_toNat (by omega) (by omega)
    constructor
    · simp only [segmentWidths, Segment.fields, Fits, Nat.reducePow, and_true]
      omega
    · simp only [segmentOf, Segment.fields, htarget, hload, (noneOr_iff hslot).2 ⟨hnone, rfl⟩]
      rw [if_pos (by omega)]

theorem readLoadProfile_iff (args : List Byte) (p : Nat) (segs : List Segment) :
    readLoadProfile args = .ok (.loadProfile p (some segs)) ↔
      args = enc1 p ++ encList Segment.bytes segs ∧ p ≤ 255 ∧ segs.length ≤ 255 ∧ ∀ g ∈ segs, g.InRange := by
  constructor
  · intro h
    unfold readLoadProfile at h
    split at h
    case h_2 => cases h
    next b rest =>
    split at h
    case h_2 => cases h
    next rows hrows =>
    simp only [Except.ok.injEq, Req.loadProfile.injEq] at h
    obtain ⟨rfl, hsegs⟩ := h
    obtain ⟨hlen, hfit, rfl⟩ := takeCounted_iff.1 hrows
    obtain ⟨rfl, hR⟩ := (allOf_reads segmentOf_reads rows segs).1 ⟨hfit, hsegs⟩
    rw [flatMap_rows Segment.bytes_eq, List.length_map] at *
    refine ⟨?_, Nat.lt_succ_iff.1 b.isLt, Nat.lt_succ_iff.1 hlen, hR⟩
    simp [enc1, byteOf_toNat, encList]
  · rintro ⟨rfl, hp, hlen, hR⟩
    obtain ⟨hfit, hsegs⟩ := (allOf_reads segmentOf_reads _ segs).2 ⟨rfl, hR⟩
    have hrows : takeCounted segmentWidths (encList Segment.bytes segs) = some (segs.map Segment.fields, []) :=
      takeCounted_iff.2 ⟨by simpa using Nat.lt_succ_iff.2 hlen, hfit,
        by rw [flatMap_rows Segment.bytes_eq, List.length_map, List.append_nil, encList]⟩
    simp only [readLoadProfile, enc1, List.cons_append, List.nil_append, hrows, hsegs,
      toNat_byteOf (Nat.lt_succ_iff.2 hp)]

theorem readLoadProfile_legal {args : List Byte} (h : readLoadProfile args ≠ .error .badRequest) :
    ∃ x, readLoadProfile args = .ok (.loadProfile (args.getD 0 0).toNat x) := by
  unfold readLoadProfile at h ⊢
  split at h
  · split at h
    · exact ⟨_, rfl⟩
    · exact absurd rfl h
  · exact absurd rfl h

end Sys2Proof.Machine
end

section
/-! The stream entry with its binding list (R16) and the order set with its channels, orders and limit curves (R60). -/

namespace Sys2Proof.Machine

/-! ## Stream entries (R16) -/

/-- The widths of a stream entry's fields, without the entry index before them and the binding list after them. -/
def streamRecordWidths : List Nat := streamWidths.tail

/-- The numbers of a stream entry's fields, in the order of section 2.1, and the rows of its binding list. -/
def StreamConfig.fields (c : StreamConfig) : List Nat × List (List Nat) :=
  ([if c.enable then 1 else 0, c.source, c.number, c.count, if c.hasPosition then 1 else 0,
    if c.hasIndex then 1 else 0, c.fs, c.stale, c.disposition.code], c.binding.map fun b => [b.getD 255])

/-- The stated values of a stream entry's fields (R16). -/
def StreamConfig.InRange (c : StreamConfig) : Prop :=
  1 ≤ c.source ∧ c.source ≤ 15 ∧ c.number ≤ 7 ∧ 1 ≤ c.count ∧ c.count ≤ 8 ∧
  c.fs ∈ [3200, 6400, 12800, 25600, 51200] ∧ 1 ≤ c.stale ∧ c.stale ≤ 255 ∧ c.binding.length = c.count ∧
  ∀ n, some n ∈ c.binding → n ≤ 23

theorem StreamConfig.bytes_eq (c : StreamConfig) :
    encFields streamRecordWidths c.fields.1 ++ (enc1 c.fields.2.length ++ c.fields.2.flatMap (encFields [1])) =
      c.bytes := by
  simp only [streamRecordWidths, streamWidths, List.tail_cons, StreamConfig.fields, encFields, List.length_map]
  rw [flatMap_rows (bytes := encNone) (fun b => by simp [encFields, encNat_one, encNone])]
  simp only [encNat_one, encNat_two, StreamConfig.bytes, encBool, encList, List.append_assoc, List.append_nil]

theorem Disposition.code_le (d : Disposition) : d.code ≤ 1 := by cases d <;> decide

/-- A row of a binding list: a channel number, or none. -/
theorem bindingRow_reads : Reads (Fits [1]) (fun row => some (noneOr (row.getD 0 255))) (fun b => [b.getD 255])
    (fun b => ∀ n, b = some n → n ≤ 254) := by
  intro row b
  constructor
  · rintro ⟨hfit, h⟩
    match row, hfit with
    | [n], hfit =>
      obtain ⟨hnone, hbyte⟩ := (noneOr_iff hfit.1).1 (Option.some.inj h)
      exact ⟨congrArg (fun n => [n]) hbyte, hnone⟩
  · rintro ⟨rfl, hnone⟩
    have hbyte : b.getD 255 < 256 := by
      cases b with
      | none => decide
      | some n => exact Nat.lt_of_le_of_lt (hnone n rfl) (by decide)
    exact ⟨⟨hbyte, trivial⟩, congrArg some ((noneOr_iff hbyte).2 ⟨hnone, rfl⟩)⟩

/-- Every channel that a binding list names exists. -/
theorem binding_all_iff (binding : List (Option Nat)) :
    (binding.all fun b => b.all fun c => decide (c ≤ 23)) = true ↔ ∀ n, some n ∈ binding → n ≤ 23 := by
  simp only [List.all_eq_true, Option.all_eq_true, decide_eq_true_eq]
  exact ⟨fun h n hn => h _ hn n rfl, fun h b hb n hbn => h n (hbn ▸ hb)⟩

theorem streamConfigOf_reads :
    Reads (fun row : List Nat × List (List Nat) => Fits streamRecordWidths row.1 ∧ ∀ b ∈ row.2, Fits [1] b)
      (fun row => streamConfigOf row.1 row.2) StreamConfig.fields StreamConfig.InRange := by
  rintro ⟨ns, rows⟩ c
  constructor
  · rintro ⟨⟨hfit, hrows⟩, h⟩
    dsimp only at hfit hrows h
    unfold streamConfigOf at h
    split at h
    case h_2 => cases h
    next en src num count pos idx fs stale disp =>
    split at h
    case h_2 => cases h
    next enable hasPosition hasIndex disposition hen hpos hidx hdisp =>
    simp only [Option.ite_none_right_eq_some, Option.some.injEq, List.contains_iff_mem, binding_all_iff] at h
    obtain ⟨⟨hs1, hs2, hnum, hc1, hc2, hfs, hst, hlen, hbind⟩, rfl⟩ := h
    obtain ⟨hrow, -⟩ := (map_reads bindingRow_reads rows _).1 ⟨hrows, rfl⟩
    simp only [streamRecordWidths, streamWidths, List.tail_cons, Fits, Nat.reducePow, and_true] at hfit
    constructor
    · simp only [StreamConfig.fields, ← hrow, ← boolOf_iff.1 hen, ← boolOf_iff.1 hpos, ← boolOf_iff.1 hidx,
        ← dispositionOf_iff.1 hdisp]
    · exact ⟨hs1, hs2, hnum, hc1, hc2, hfs, hst, by dsimp only; omega, hlen, hbind⟩
  · rintro ⟨hrow, hs1, hs2, hnum, hc1, hc2, hfs, hst, hst2, hlen, hbind⟩
    obtain ⟨rfl, rfl⟩ := Prod.mk.inj hrow
    obtain ⟨hrows, hlist⟩ := (map_reads bindingRow_reads _ c.binding).2
      ⟨rfl, fun b hb n hbn => (hbind n (hbn ▸ hb)).trans (by decide)⟩
    refine ⟨⟨?_, hrows⟩, ?_⟩
    · simp only [streamRecordWidths, streamWidths, List.tail_cons, Fits, Nat.reducePow, and_true]
      have hd := c.disposition.code_le
      have hfs' : c.fs ≤ 51200 := by
        simp only [List.mem_cons, List.not_mem_nil, or_false] at hfs
        omega
      have hbool : ∀ b : Bool, (if b then 1 else 0) < 256 := by decide
      exact ⟨hbool _, by omega, by omega, by omega, hbool _, hbool _, by omega, by omega, by omega⟩
    · simp only [streamConfigOf, boolOf_iff.2 rfl, dispositionOf_iff.2 rfl, hlist]
      rw [if_pos ⟨hs1, hs2, hnum, hc1, hc2, by simpa using hfs, hst, hlen, (binding_all_iff _).2 hbind⟩]

theorem readLoadStream_iff (args : List Byte) (i : Nat) (c : StreamConfig) :
    readLoadStream args = .ok (.loadStream i (some c)) ↔ args = enc1 i ++ c.bytes ∧ i ≤ 255 ∧ c.InRange := by
  constructor
  · intro h
    unfold readLoadStream at h
    split at h
    case h_1 => cases h
    next ns rest hns =>
    split at h
    case h_2 => cases h
    next rows hrows =>
    obtain ⟨hfit, rfl⟩ := takeFields_iff.1 hns
    obtain ⟨-, hrowsFit, rfl⟩ := takeCounted_iff.1 hrows
    match ns, hfit with
    | n :: ns, ⟨hn, hfit⟩ =>
      simp only [Except.ok.injEq, Req.loadStream.injEq, List.headD_cons, List.tail_cons] at h
      obtain ⟨rfl, hc⟩ := h
      obtain ⟨hrow, hR⟩ := (streamConfigOf_reads (ns, rows) c).1 ⟨⟨hfit, hrowsFit⟩, hc⟩
      refine ⟨?_, Nat.lt_succ_iff.1 hn, hR⟩
      rw [← c.bytes_eq, ← hrow]
      simp only [streamRecordWidths, streamWidths, List.tail_cons, encFields, encNat_one, List.append_assoc,
        List.append_nil]
  · rintro ⟨rfl, hi, hR⟩
    obtain ⟨⟨hfit, hrowsFit⟩, hc⟩ := (streamConfigOf_reads _ c).2 ⟨rfl, hR⟩
    have hns : takeFields streamWidths (enc1 i ++ c.bytes) = some (i :: c.fields.1,
        enc1 c.fields.2.length ++ c.fields.2.flatMap (encFields [1])) := by
      refine takeFields_iff.2 ⟨⟨Nat.lt_succ_iff.2 hi, hfit⟩, ?_⟩
      rw [← c.bytes_eq, ← List.append_assoc]
      rfl
    have hlen : c.fields.2.length < 256 := by
      obtain ⟨-, -, -, -, hcount, -, -, -, hlen, -⟩ := hR
      rw [StreamConfig.fields, List.length_map, hlen]
      exact Nat.lt_of_le_of_lt hcount (by decide)
    have hrows : takeCounted [1] (enc1 c.fields.2.length ++ c.fields.2.flatMap (encFields [1])) =
        some (c.fields.2, []) :=
      takeCounted_iff.2 ⟨hlen, hrowsFit, (List.append_nil _).symm⟩
    simp only [readLoadStream, hns, hrows, List.headD_cons, List.tail_cons, hc]

theorem readLoadStream_legal {args : List Byte} (h : readLoadStream args ≠ .error .badRequest) :
    ∃ x, readLoadStream args = .ok (.loadStream (args.getD 0 0).toNat x) := by
  unfold readLoadStream at h ⊢
  split at h
  · exact absurd rfl h
  · next ns rest hns =>
    split at h
    · next rows hrows =>
      obtain ⟨hfit, rfl⟩ := takeFields_iff.1 hns
      match ns, hfit with
      | n :: ns, ⟨hn, _⟩ =>
        refine ⟨streamConfigOf ns rows, ?_⟩
        rw [streamWidths, encFields, encNat_one, List.append_assoc, getD_enc1 hn]
        rfl
    · exact absurd rfl h

/-! ## Order sets (R60) -/

/-- The stated values of a curve point (section 4.5). -/
def CurvePoint.InRange (p : CurvePoint) : Prop := p.speed ≤ 12000 ∧ p.limit ≤ 65535

theorem pointOf_reads : Reads (Fits [2, 2]) pointOf (fun p => [p.speed, p.limit]) CurvePoint.InRange := by
  intro row p
  constructor
  · rintro ⟨hfit, h⟩
    unfold pointOf at h
    split at h
    case h_2 => cases h
    next speed limit =>
    simp only [Option.ite_none_right_eq_some, Option.some.injEq] at h
    obtain ⟨hspeed, rfl⟩ := h
    exact ⟨rfl, hspeed, Nat.lt_succ_iff.1 hfit.2.1⟩
  · rintro ⟨rfl, hspeed, hlimit⟩
    exact ⟨⟨Nat.lt_of_le_of_lt hspeed (by decide), Nat.lt_succ_iff.2 hlimit, trivial⟩, if_pos hspeed⟩

theorem increasing_iff (curve : List CurvePoint) :
    increasing curve = true ↔ curve.Pairwise (fun a b => a.speed < b.speed) := by
  have htrans : IsTrans CurvePoint (fun a b => a.speed < b.speed) := ⟨fun _ _ _ => Nat.lt_trans⟩
  rw [← List.isChain_iff_pairwise]
  induction curve with
  | nil => simp [increasing]
  | cons p rest ih =>
    cases rest with
    | nil => simp [increasing]
    | cons q rest => simp [increasing, ih]

/-- The numbers of an order entry's fields, and the rows of its limit curve. -/
def OrderEntry.fields (o : OrderEntry) : List Nat × List (List Nat) :=
  ([o.base.code, o.harmonic, o.direct], o.curve.map fun p => [p.speed, p.limit])

/-- The stated values of an order entry's fields (R60). -/
def OrderEntry.InRange (o : OrderEntry) : Prop :=
  1 ≤ o.harmonic ∧ o.harmonic ≤ 8 ∧ o.direct ≤ 4294967295 ∧
  (o.base = .direct → 1 ≤ o.direct ∧ o.direct ≤ 31457280) ∧ 2 ≤ o.curve.length ∧ o.curve.length ≤ 8 ∧
  (∀ p ∈ o.curve, p.speed ≤ 12000 ∧ p.limit ≤ 65535) ∧ o.curve.Pairwise (fun a b => a.speed < b.speed)

/-- An order entry's fields and its limit curve's rows are as wide as section 4.5 says. -/
def OrderRowFits (row : List Nat × List (List Nat)) : Prop :=
  Fits [1, 1, 4] row.1 ∧ row.2.length < 256 ∧ ∀ p ∈ row.2, Fits [2, 2] p

/-- The bytes of an order entry's fields and of its counted limit curve. -/
def orderRowBytes (row : List Nat × List (List Nat)) : List Byte :=
  encFields [1, 1, 4] row.1 ++ (enc1 row.2.length ++ row.2.flatMap (encFields [2, 2]))

theorem OrderEntry.bytes_eq (o : OrderEntry) : orderRowBytes o.fields = o.bytes := by
  simp only [orderRowBytes, OrderEntry.fields, List.length_map]
  rw [flatMap_rows (bytes := fun p => enc2 p.speed ++ enc2 p.limit) (fun p => by simp [encFields, encNat_two])]
  simp only [encFields, encNat_one, encNat_four, OrderEntry.bytes, encList, List.append_assoc, List.append_nil]

theorem OrderBase.code_le (b : OrderBase) : b.code ≤ 3 := by cases b <;> decide

theorem orderEntryOf_reads :
    Reads OrderRowFits (fun row => orderEntryOf row.1 row.2) OrderEntry.fields OrderEntry.InRange := by
  rintro ⟨ns, rows⟩ o
  constructor
  · rintro ⟨⟨hfit, -, hrows⟩, h⟩
    dsimp only at hfit hrows h
    unfold orderEntryOf at h
    split at h
    case h_2 => cases h
    next base harmonic direct =>
    split at h
    case h_2 => cases h
    next named curve hbase hcurve =>
    simp only [Option.ite_none_right_eq_some, Option.some.injEq, increasing_iff] at h
    obtain ⟨⟨h1, h8, hdirect, hlen2, hlen8, hinc⟩, rfl⟩ := h
    obtain ⟨rfl, hpoints⟩ := (allOf_reads pointOf_reads rows curve).1 ⟨hrows, hcurve⟩
    obtain rfl := orderBaseOf_iff.1 hbase
    exact ⟨rfl, h1, h8, Nat.lt_succ_iff.1 hfit.2.2.1, hdirect, hlen2, hlen8, hpoints, hinc⟩
  · rintro ⟨hrow, h1, h8, hdirect, hbase, hlen2, hlen8, hpoints, hinc⟩
    obtain ⟨rfl, rfl⟩ := Prod.mk.inj hrow
    obtain ⟨hrows, hcurve⟩ := (allOf_reads pointOf_reads _ o.curve).2 ⟨rfl, hpoints⟩
    refine ⟨⟨?_, ?_, hrows⟩, ?_⟩
    · have hb := o.base.code_le
      simp only [Fits, Nat.reducePow, and_true]
      omega
    · simp only [List.length_map]
      omega
    · simp only [orderEntryOf, orderBaseOf_iff.2 rfl, hcurve]
      rw [if_pos ⟨h1, h8, hbase, hlen2, hlen8, (increasing_iff _).2 hinc⟩]

/-- Order entries are read exactly where their bytes stand, up to the end. -/
theorem takeOrders_iff {count : Nat} {bytes : List Byte} {rows : List (List Nat × List (List Nat))} :
    takeOrders count bytes = some rows ↔
      rows.length = count ∧ (∀ row ∈ rows, OrderRowFits row) ∧ bytes = rows.flatMap orderRowBytes := by
  induction count generalizing bytes rows with
  | zero => cases rows <;> simp [takeOrders]
  | succ count ih =>
    constructor
    · intro h
      unfold takeOrders at h
      split at h
      case h_1 => cases h
      next ns rest hns =>
      split at h
      case h_1 => cases h
      next points rest' hpoints =>
      split at h
      case h_1 => cases h
      next more hmore =>
      obtain rfl := Option.some.inj h
      obtain ⟨hfit, rfl⟩ := takeFields_iff.1 hns
      obtain ⟨hlen, hpointsFit, rfl⟩ := takeCounted_iff.1 hpoints
      obtain ⟨hcount, hall, rfl⟩ := ih.1 hmore
      exact ⟨by simp [hcount], List.forall_mem_cons.2 ⟨⟨hfit, hlen, hpointsFit⟩, hall⟩, by simp [orderRowBytes]⟩
    · rintro ⟨hcount, hall, rfl⟩
      match rows, hcount with
      | (ns, points) :: more, hcount =>
        obtain ⟨⟨hfit, hlen, hpointsFit⟩, hmoreFit⟩ := List.forall_mem_cons.1 hall
        have hns : takeFields [1, 1, 4] (((ns, points) :: more).flatMap orderRowBytes) =
            some (ns, enc1 points.length ++ points.flatMap (encFields [2, 2]) ++ more.flatMap orderRowBytes) :=
          takeFields_iff.2 ⟨hfit, by simp [orderRowBytes]⟩
        have hpoints := takeCounted_iff.2 ⟨hlen, hpointsFit,
          rfl (a := enc1 points.length ++ points.flatMap (encFields [2, 2]) ++ more.flatMap orderRowBytes)⟩
        have hmore : takeOrders count (more.flatMap orderRowBytes) = some more :=
          ih.2 ⟨Nat.succ.inj hcount, hmoreFit, rfl⟩
        simp only [takeOrders, hns, hpoints, hmore]

/-- The widths of an order set's header, without the slot number before it. -/
def orderHeaderWidths : List Nat := [1, 1, 1, 2]

/-- The numbers of an order set's header, the rows of its channel list, and its order entries. -/
def OrderSet.fields (x : OrderSet) : List Nat × List (List Nat) × List (List Nat × List (List Nat)) :=
  ([x.revs, x.minValid, x.failCount, x.steadiness], x.channels.map fun c => [c], x.orders.map OrderEntry.fields)

/-- The stated values of an order set's fields (R60). -/
def OrderSet.InRange (x : OrderSet) : Prop :=
  1 ≤ x.revs ∧ x.revs ≤ 64 ∧ 1 ≤ x.minValid ∧ x.minValid ≤ 15 ∧ 1 ≤ x.failCount ∧ x.failCount ≤ 15 ∧
  1 ≤ x.steadiness ∧ x.steadiness ≤ 500 ∧ 1 ≤ x.channels.length ∧ x.channels.length ≤ 4 ∧ x.channels.Nodup ∧
  (∀ c ∈ x.channels, c ≤ 23) ∧ 1 ≤ x.orders.length ∧ x.orders.length ≤ 255 ∧ ∀ o ∈ x.orders, o.InRange

/-- The rows of an order set are as wide as section 4.5 says, and its orders no more than a count byte counts. -/
def OrderSetFits (row : List Nat × List (List Nat) × List (List Nat × List (List Nat))) : Prop :=
  Fits orderHeaderWidths row.1 ∧ (∀ c ∈ row.2.1, Fits [1] c) ∧ row.2.2.length < 256 ∧ ∀ o ∈ row.2.2, OrderRowFits o

/-- The bytes of an order set's header, its channel list and its orders. -/
def orderSetRowBytes (row : List Nat × List (List Nat) × List (List Nat × List (List Nat))) : List Byte :=
  encFields orderHeaderWidths row.1 ++ (enc1 row.2.1.length ++ row.2.1.flatMap (encFields [1]) ++
    (enc1 row.2.2.length ++ row.2.2.flatMap orderRowBytes))

theorem OrderSet.bytes_eq (x : OrderSet) : orderSetRowBytes x.fields = x.bytes := by
  simp only [orderSetRowBytes, OrderSet.fields, List.length_map]
  rw [flatMap_rows OrderEntry.bytes_eq, flatMap_rows (bytes := enc1) (fun c => by simp [encFields, encNat_one])]
  simp only [orderHeaderWidths, encFields, encNat_one, encNat_two, OrderSet.bytes, encList, List.append_assoc,
    List.append_nil]

/-- A row of a channel list: its one byte. -/
theorem channelRow_reads : Reads (Fits [1]) (fun row => some (row.getD 0 255)) (fun c => [c]) (fun c => c ≤ 255) := by
  intro row c
  constructor
  · rintro ⟨hfit, h⟩
    match row, hfit with
    | [n], hfit =>
      obtain rfl : n = c := Option.some.inj h
      exact ⟨rfl, Nat.lt_succ_iff.1 hfit.1⟩
  · rintro ⟨rfl, hc⟩
    exact ⟨⟨Nat.lt_succ_iff.2 hc, trivial⟩, rfl⟩

theorem orderSetOf_reads :
    Reads OrderSetFits (fun row => orderSetOf row.1 row.2.1 row.2.2) OrderSet.fields OrderSet.InRange := by
  rintro ⟨ns, rows, orders⟩ x
  constructor
  · rintro ⟨⟨hfit, hrows, hcount, horders⟩, h⟩
    dsimp only at hfit hrows hcount horders h
    unfold orderSetOf at h
    split at h
    case h_2 => cases h
    next revs minValid failCount steadiness entries hentries =>
    simp only [Option.ite_none_right_eq_some, Option.some.injEq, allDistinct_iff, List.all_eq_true,
      decide_eq_true_eq] at h
    obtain ⟨⟨hb1, hb2, hm1, hm2, hk1, hk2, hs1, hs2, hl1, hl4, hc, hnodup, he⟩, rfl⟩ := h
    obtain ⟨hlist, -⟩ := (map_reads channelRow_reads rows _).1 ⟨hrows, rfl⟩
    obtain ⟨rfl, hR⟩ := (allOf_reads orderEntryOf_reads orders entries).1 ⟨horders, hentries⟩
    rw [List.length_map] at hcount
    exact ⟨by rw [OrderSet.fields, ← hlist],
      hb1, hb2, hm1, hm2, hk1, hk2, hs1, hs2, hl1, hl4, hnodup, hc, he, Nat.lt_succ_iff.1 hcount, hR⟩
  · rintro ⟨hrow, hb1, hb2, hm1, hm2, hk1, hk2, hs1, hs2, hl1, hl4, hnodup, hc, he, hcount, hR⟩
    obtain ⟨rfl, hlists⟩ := Prod.mk.inj hrow
    obtain ⟨rfl, rfl⟩ := Prod.mk.inj hlists
    obtain ⟨hrows, hlist⟩ := (map_reads channelRow_reads _ x.channels).2
      ⟨rfl, fun c h => (hc c h).trans (by decide)⟩
    obtain ⟨horders, hentries⟩ := (allOf_reads orderEntryOf_reads _ x.orders).2 ⟨rfl, hR⟩
    refine ⟨⟨?_, hrows, by simpa using Nat.lt_succ_iff.2 hcount, horders⟩, ?_⟩
    · simp only [orderHeaderWidths, Fits, Nat.reducePow, and_true]
      omega
    · simp only [orderSetOf, hentries, hlist]
      rw [if_pos ⟨hb1, hb2, hm1, hm2, hk1, hk2, hs1, hs2, hl1, hl4,
        by simpa only [List.all_eq_true, decide_eq_true_eq] using hc, (allDistinct_iff _).2 hnodup, he⟩]

theorem readLoadOrderSet_iff (args : List Byte) (slot : Nat) (x : OrderSet) :
    readLoadOrderSet args = .ok (.loadOrderSet slot (some x)) ↔
      args = enc1 slot ++ x.bytes ∧ slot ≤ 255 ∧ x.InRange := by
  constructor
  · intro h
    unfold readLoadOrderSet at h
    split at h
    case h_1 => cases h
    next ns rest hns =>
    split at h
    case h_2 => cases h
    next rows b rest' hrows =>
    split at h
    case h_2 => cases h
    next orders horders =>
    obtain ⟨hfit, rfl⟩ := takeFields_iff.1 hns
    obtain ⟨-, hrowsFit, rfl⟩ := takeCounted_iff.1 hrows
    obtain ⟨hcount, hordersFit, rfl⟩ := takeOrders_iff.1 horders
    match ns, hfit with
    | n :: ns, ⟨hn, hfit⟩ =>
      simp only [Except.ok.injEq, Req.loadOrderSet.injEq, List.headD_cons, List.tail_cons] at h
      obtain ⟨rfl, hx⟩ := h
      obtain ⟨hrow, hR⟩ := (orderSetOf_reads (ns, rows, orders) x).1
        ⟨⟨hfit, hrowsFit, hcount ▸ b.isLt, hordersFit⟩, hx⟩
      refine ⟨?_, Nat.lt_succ_iff.1 hn, hR⟩
      rw [← x.bytes_eq, ← hrow]
      simp only [orderSetRowBytes, orderHeaderWidths, encFields, encNat_one, hcount, enc1,
        byteOf_toNat, List.cons_append, List.nil_append]
  · rintro ⟨rfl, hi, hR⟩
    obtain ⟨⟨hfit, hrowsFit, hcount, hordersFit⟩, hx⟩ := (orderSetOf_reads _ x).2 ⟨rfl, hR⟩
    obtain ⟨-, -, -, -, -, -, -, -, -, hchannels, -⟩ := hR
    have hchannels' : x.fields.2.1.length < 256 := by
      rw [OrderSet.fields, List.length_map]
      exact Nat.lt_of_le_of_lt hchannels (by decide)
    have hns : takeFields [1, 1, 1, 1, 2] (enc1 slot ++ x.bytes) = some (slot :: x.fields.1,
        enc1 x.fields.2.1.length ++ x.fields.2.1.flatMap (encFields [1]) ++
          (enc1 x.fields.2.2.length ++ x.fields.2.2.flatMap orderRowBytes)) := by
      refine takeFields_iff.2 ⟨⟨Nat.lt_succ_iff.2 hi, hfit⟩, ?_⟩
      rw [← x.bytes_eq, orderSetRowBytes, ← List.append_assoc]
      rfl
    have hrows := takeCounted_iff.2 ⟨hchannels', hrowsFit,
      rfl (a := enc1 x.fields.2.1.length ++ x.fields.2.1.flatMap (encFields [1]) ++
        (enc1 x.fields.2.2.length ++ x.fields.2.2.flatMap orderRowBytes))⟩
    have horders : takeOrders (byteOf x.fields.2.2.length).toNat (x.fields.2.2.flatMap orderRowBytes) =
        some x.fields.2.2 :=
      takeOrders_iff.2 ⟨(toNat_byteOf hcount).symm, hordersFit, rfl⟩
    simp only [enc1, List.cons_append, List.nil_append] at hns hrows
    simp only [readLoadOrderSet, enc1, List.cons_append, List.nil_append, hns, hrows, horders, List.headD_cons,
      List.tail_cons, hx]

theorem readLoadOrderSet_legal {args : List Byte} (h : readLoadOrderSet args ≠ .error .badRequest) :
    ∃ x, readLoadOrderSet args = .ok (.loadOrderSet (args.getD 0 0).toNat x) := by
  unfold readLoadOrderSet at h ⊢
  split at h
  · exact absurd rfl h
  · next ns rest hns =>
    obtain ⟨hfit, rfl⟩ := takeFields_iff.1 hns
    split at h
    · next rows b rest' hrows =>
      split at h
      · next orders horders =>
        match ns, hfit with
        | n :: ns, ⟨hn, _⟩ =>
          refine ⟨orderSetOf ns rows orders, ?_⟩
          rw [encFields, encNat_one, List.append_assoc, getD_enc1 hn]
          rfl
      · exact absurd rfl h
    · exact absurd rfl h

end Sys2Proof.Machine
end

section
/-! Records read back as they were loaded (O27). -/

namespace Sys2Proof.Machine

theorem Request.form_eq {q : Request} {args : List Byte} (h : q.args = some args) {kind : Nat}
    (hkind : kindOf q.head = kind) : q.form = readArguments kind args := by
  rw [Request.form, h, hkind]

/-- Settles O27. -/
theorem recordsReadBackAsLoaded : Obligations.RecordsReadBackAsLoaded := by
  intro q args hargs
  refine ⟨fun hk => ?_, fun hk => ?_, fun hk => ?_, fun hk => ?_, fun hk => ?_, fun hk => ?_, fun hk => ?_⟩ <;>
    rw [Request.form_eq hargs hk]
  · constructor
    · intro h
      obtain ⟨ns, -, -, hok⟩ := fixedFields_legal h
      exact ⟨_, hok⟩
    · intro r
      rw [← r.bytes_eq]
      exact fixedFields_record standOf_reads (fun x y => by simp only [Req.loadStand.injEq]) args r
  · constructor
    · exact fixedFields_numbered_legal (f := variantOf)
    · intro slot v
      rw [← v.bytes_eq]
      exact fixedFields_numbered variantOf_reads (fun i x j y => by simp only [Req.loadVariant.injEq]) args slot v
  · exact ⟨readLoadProfile_legal, readLoadProfile_iff args⟩
  · exact ⟨readLoadOrderSet_legal, readLoadOrderSet_iff args⟩
  · exact ⟨readLoadStream_legal, readLoadStream_iff args⟩
  · constructor
    · exact fixedFields_numbered_legal (f := channelConfigOf)
    · intro i c
      rw [← c.bytes_eq]
      exact fixedFields_numbered channelConfigOf_reads (fun i x j y => by simp only [Req.loadChannel.injEq]) args i c
  · constructor
    · intro h
      obtain ⟨ns, -, -, hok⟩ := fixedFields_legal h
      exact ⟨_, hok⟩
    · intro x
      refine (fixedFields_record settingsOf_reads (fun x y => by simp only [Req.setNotice.injEq]) args x).trans ?_
      exact and_congr_left fun hR => by rw [x.bytes_eq hR]

end Sys2Proof.Machine
end

section
/-! The Angle Unit's steps at one set: the capture step (R39), the position steps (R40, R42), the angle step (R43) and
standstill detection (R46). -/
namespace Sys2Proof.Machine

/-! ## The capture step and the position step in one set (R38 to R41) -/

theorem moveSteps_of_wrap {st : Stand} (h : st.mode = .wrap) (t : Track) (pos : Pos) (capture : Option Pos) :
    moveSteps st t pos capture = ((wrapStep st t pos).1, (wrapStep st t pos).2, 0) := by
  simp only [moveSteps, h]

theorem moveSteps_of_no_capture {st : Stand} (h : st.mode = .index) {t : Track} (ht : t.consecutive ≠ 3) (pos : Pos) :
    moveSteps st t pos none = ((indexStep st t pos).1, (indexStep st t pos).2, (indexStep st t pos).2.slips) := by
  simp only [moveSteps, h, if_neg ht, Turn.slips, Nat.zero_add]
  split
  · next hp => rw [hp]
  · rfl

/-- The third consecutive slip at the capture step ends the handling there (R41). -/
theorem moveSteps_of_third {st : Stand} (h : st.mode = .index) {t : Track} {c : Pos}
    (ht : (captureStep st t c).1.consecutive = 3) (pos : Pos) :
    moveSteps st t pos (some c) = ((captureStep st t c).1, (captureStep st t c).2, (captureStep st t c).2.slips) := by
  simp only [moveSteps, h, if_pos ht]

theorem moveSteps_of_capture {st : Stand} (h : st.mode = .index) {t : Track} {c : Pos}
    (ht : (captureStep st t c).1.consecutive ≠ 3) (pos : Pos) :
    moveSteps st t pos (some c) =
      let p := indexStep st (captureStep st t c).1 pos
      (p.1, if p.2 = .none then (captureStep st t c).2 else p.2, (captureStep st t c).2.slips + p.2.slips) := by
  simp only [moveSteps, h, if_neg ht]

/-- The capture step counts one more consecutive slip at an irregular spacing, and none at a regular one (R39). -/
theorem captureStep_consecutive (st : Stand) (t : Track) (c : Pos) :
    (captureStep st t c).1.consecutive = 0 ∨
      (captureStep st t c).1.consecutive = t.consecutive + 1 ∧ (captureStep st t c).2 = .slipped .capture := by
  unfold captureStep
  dsimp only
  split
  · exact .inl rfl
  · exact .inr ⟨rfl, rfl⟩

theorem moveBy_directionOf (reference : Pos) (e : Int) (n : Nat) : moveBy reference (directionOf e) n =
    if 0 ≤ e then reference + BitVec.ofNat 32 n else reference - BitVec.ofNat 32 n := by
  unfold directionOf
  split <;> rfl

/-- A position too far from the reference moves it, as a boundary when the one before was carried and as a slip
otherwise (R40). -/
theorem indexStep_of_far {st : Stand} {t : Track} {pos : Pos}
    (h : st.cpr + st.tolerance < (signedDiff pos t.reference).natAbs) :
    indexStep st t pos =
      let e := signedDiff pos t.reference
      let moved := { t with reference := moveBy t.reference (directionOf e) st.cpr, direction := directionOf e,
                            moved := true }
      if t.carried then (moved, .closed .threshold)
      else ({ moved with carried := true, consecutive := t.consecutive + 1 }, .slipped .threshold) :=
  if_neg (by omega)

/-- Settles O31. -/
theorem markerSpacingMakesBoundariesAndSlips : Obligations.MarkerSpacingMakesBoundariesAndSlips := by
  refine ⟨fun st t c => ⟨fun h => if_pos (by omega), fun h => if_neg (by omega)⟩,
    fun st t pos => ⟨fun h => if_pos h, fun h hc => ?_, fun h hc => ?_⟩, fun st t pos capture ht => ?_⟩
  · simp only [indexStep_of_far h, hc, moveBy_directionOf]
    rfl
  · simp only [indexStep_of_far h, hc, moveBy_directionOf]
    rfl
  · intro slips
    have hslips : slips = Turn.slips := by
      funext turn
      cases turn <;> rfl
    rw [hslips]
    refine ⟨fun h => moveSteps_of_wrap h t pos capture, ?_, ?_⟩
    · rintro h rfl
      exact moveSteps_of_no_capture h (by omega) pos
    · rintro c h rfl
      refine ⟨fun h3 => ?_, fun h3 hp => ?_, fun h3 hp => ?_⟩
      · have hslip := (captureStep_consecutive st t c).resolve_left (by omega)
        rw [moveSteps_of_third h h3, hslip.2]
        rfl
      · rw [moveSteps_of_capture h h3]
        dsimp only
        rw [if_pos hp, hp]
        rfl
      · rw [moveSteps_of_capture h h3]
        simp only [if_neg hp]

/-! ## WRAP mode (R42) -/

/-- Moving the reference moves the signed difference the other way, modulo 2^32. -/
theorem signedDiff_moveBy (pos reference : Pos) (n : Nat) :
    signedDiff pos (moveBy reference .forward n) = (signedDiff pos reference - n).bmod (2 ^ 32) ∧
      signedDiff pos (moveBy reference .reverse n) = (signedDiff pos reference + n).bmod (2 ^ 32) := by
  have hforward : pos - moveBy reference .forward n = pos - reference - BitVec.ofNat 32 n := by
    simp only [moveBy]; ring
  have hreverse : pos - moveBy reference .reverse n = pos - reference + BitVec.ofNat 32 n := by
    simp only [moveBy]; ring
  constructor
  · rw [signedDiff, hforward, BitVec.toInt_sub, BitVec.toInt_ofNat', Int.sub_bmod_bmod, signedDiff]
  · rw [signedDiff, hreverse, BitVec.toInt_add, BitVec.toInt_ofNat', Int.add_bmod_bmod, signedDiff]

/-- A difference inside the signed 32-bit range is read as it is. -/
theorem bmod_of_signed32 {z : Int} (hlo : -2147483648 ≤ z) (hhi : z < 2147483648) : z.bmod (2 ^ 32) = z :=
  Int.bmod_eq_of_le (by omega) (by omega)

/-- A signed difference lies in the signed 32-bit range. -/
theorem signedDiff_range (a b : Pos) : -2147483648 ≤ signedDiff a b ∧ signedDiff a b < 2147483648 :=
  ⟨(a - b).le_toInt, (a - b).toInt_lt⟩

/-- A move by no more than the position's distance, towards it, shortens the distance by just that (R42). -/
theorem natAbs_signedDiff_moveBy {pos reference : Pos} {n : Nat} (h : n ≤ (signedDiff pos reference).natAbs) :
    (signedDiff pos (moveBy reference (directionOf (signedDiff pos reference)) n)).natAbs =
      (signedDiff pos reference).natAbs - n := by
  obtain ⟨hforward, hreverse⟩ := signedDiff_moveBy pos reference n
  obtain ⟨hlo, hhi⟩ := signedDiff_range pos reference
  unfold directionOf
  split
  · rw [hforward, bmod_of_signed32 (by omega) (by omega)]
    omega
  · rw [hreverse, bmod_of_signed32 (by omega) (by omega)]
    omega

theorem wrapStep_of_near {st : Stand} {t : Track} {pos : Pos} (h : (signedDiff pos t.reference).natAbs < st.cpr) :
    wrapStep st t pos = (t, .none) := if_pos h

theorem wrapStep_of_far {st : Stand} {t : Track} {pos : Pos} (h : st.cpr ≤ (signedDiff pos t.reference).natAbs) :
    wrapStep st t pos =
      let e := signedDiff pos t.reference
      ({ t with reference := moveBy t.reference (directionOf e) (e.natAbs / st.cpr * st.cpr),
                direction := directionOf e, moved := true }, .closed .threshold) := if_neg (by omega)

/-- After the position step of WRAP mode the reference lies less than CPR from the position (R42). -/
theorem wrapStep_near {st : Stand} (hcpr : 0 < st.cpr) (t : Track) (pos : Pos) :
    (signedDiff pos (wrapStep st t pos).1.reference).natAbs < st.cpr := by
  rcases Nat.lt_or_ge (signedDiff pos t.reference).natAbs st.cpr with h | h
  · rwa [wrapStep_of_near h]
  · rw [wrapStep_of_far h]
    dsimp only
    rw [natAbs_signedDiff_moveBy (Nat.div_mul_le_self _ _), ← Nat.mod_eq_sub_div_mul]
    exact Nat.mod_lt _ hcpr

/-! ## The angle step (R43) -/

/-- The direction of the angle step: taken afresh only while the reference has not moved (R43). -/
def Track.heading (t : Track) (pos : Pos) : Direction :=
  if t.moved then t.direction else directionOf (signedDiff pos t.reference)

/-- The counts from the reference in the direction of travel, within the revolution (R43). -/
def Track.travelled (t : Track) (cpr : Nat) (pos : Pos) : Nat :=
  (match t.heading pos with
   | .forward => (pos - t.reference).toNat
   | .reverse => (t.reference - pos).toNat) % cpr

theorem angleStep_eq (st : Stand) (t : Track) (pos : Pos) :
    angleStep st t pos =
      { t with direction := t.heading pos, angle16 := some (t.travelled st.cpr pos * 65536 / st.cpr) } := by
  have hdir : (if t.moved then t.direction else directionOf (signedDiff pos t.reference)) = t.heading pos := rfl
  simp only [angleStep, hdir, Track.travelled]
  cases t.heading pos <;> rfl

theorem Track.travelled_lt (t : Track) {cpr : Nat} (h : 1 ≤ cpr) (pos : Pos) : t.travelled cpr pos < cpr :=
  Nat.mod_lt _ h

theorem Track.angle_lt (t : Track) {cpr : Nat} (h : 1 ≤ cpr) (pos : Pos) :
    t.travelled cpr pos * 65536 / cpr < 65536 := by
  have := t.travelled_lt h pos
  exact Nat.div_lt_of_lt_mul (by omega)

/-- Settles O33. -/
theorem wrapReferenceAndAngleStayNear : Obligations.WrapReferenceAndAngleStayNear := by
  refine ⟨fun st t pos hlo hhi => ⟨wrapStep_near (by omega) t pos, wrapStep_of_near, fun h => ?_⟩,
    fun st t pos hcpr => ⟨angleStep_eq st t pos, t.travelled_lt hcpr pos, t.angle_lt hcpr pos⟩⟩
  rw [wrapStep_of_far h]
  refine ⟨rfl, (signedDiff pos t.reference).natAbs / st.cpr, (Nat.one_le_div_iff (by omega)).2 h, ?_⟩
  simp only [moveBy_directionOf]
  rfl

/-! ## Standstill detection (R46) -/

/-- The span of a list is within `w` exactly when no two members lie further apart. -/
theorem spanOf_le_iff (xs : List Int) (w : Nat) : spanOf xs ≤ w ↔ ∀ a ∈ xs, ∀ b ∈ xs, a - b ≤ w := by
  cases xs with
  | nil => simp [spanOf]
  | cons x xs =>
    obtain ⟨hmax, hle⟩ := List.max?_eq_some_iff.1 (List.max?_cons' (x := x) (xs := xs))
    obtain ⟨hmin, hge⟩ := List.min?_eq_some_iff.1 (List.min?_cons' (x := x) (xs := xs))
    have hspan : spanOf (x :: xs) = xs.foldl max x - xs.foldl min x := by simp [spanOf]
    rw [hspan]
    constructor
    · intro h a ha b hb
      have := hle a ha
      have := hge b hb
      omega
    · exact fun h => h _ hmax _ hmin

/-- Settles O35. -/
theorem standstillNeedsAHundredStillMilliseconds : Obligations.StandstillNeedsAHundredStillMilliseconds := by
  intro u window now pos t start
  have hstart : u.historyStart.getD now = start := by
    simp only [start]
    cases u.historyStart <;> rfl
  refine ⟨rfl, congrArg some hstart, rfl, rfl, ?_⟩
  have hflag : t.standstill = (decide (100 ≤ elapsed now start) && still window pos t.history) := by rw [← hstart]; rfl
  rw [hflag, Bool.and_eq_true, decide_eq_true_eq, still, decide_eq_true_eq, spanOf_le_iff]
  simp only [List.forall_mem_map]

end Sys2Proof.Machine
end

section
/-! What `State.AngleSound` speaks of, and the operations that leave it alone: one lemma per operation, beside its
`JobStep` of Laws/Jobs.lean. -/
namespace Sys2Proof.Machine

/-- What `State.AngleSound` speaks of: the Angle Unit's state and total slips, and the stand record. -/
def State.shaft (s : State) : AngleState × Nat × Option Stand := (s.angle.state, s.angle.totalSlips, s.stand)

theorem shaft_of_angle {s t : State} (ha : t.angle = s.angle) (hs : t.stand = s.stand) : t.shaft = s.shaft := by
  simp only [State.shaft, ha, hs]

/-! ## The updates -/

@[simp] theorem State.setPins_shaft (s : State) (x : Pins) : (s.setPins x).shaft = s.shaft := rfl
@[simp] theorem State.setTimeBase_shaft (s : State) (x : Time) : (s.setTimeBase x).shaft = s.shaft := rfl
@[simp] theorem State.setRing_shaft (s : State) (x : Ring) : (s.setRing x).shaft = s.shaft := rfl
@[simp] theorem State.setTables_shaft (s : State) (x : Option Tables) : (s.setTables x).shaft = s.shaft := rfl
@[simp] theorem State.setUnits_shaft (s : State) (x : List UnitRecord) : (s.setUnits x).shaft = s.shaft := rfl
@[simp] theorem State.setRunIn_shaft (s : State) (x : RunIn) : (s.setRunIn x).shaft = s.shaft := rfl
@[simp] theorem State.setEngine_shaft (s : State) (x : Engine) : (s.setEngine x).shaft = s.shaft := rfl
@[simp] theorem State.setLeak_shaft (s : State) (x : Leak) : (s.setLeak x).shaft = s.shaft := rfl
@[simp] theorem State.setNotices_shaft (s : State) (x : Notices) : (s.setNotices x).shaft = s.shaft := rfl
@[simp] theorem State.setArbiter_shaft (s : State) (x : Arbiter) : (s.setArbiter x).shaft = s.shaft := rfl
@[simp] theorem State.setRequests_shaft (s : State) (x : RequestUnit) : (s.setRequests x).shaft = s.shaft := rfl
@[simp] theorem State.setLoader_shaft (s : State) (x : LoaderState) : (s.setLoader x).shaft = s.shaft := rfl
@[simp] theorem State.setReports_shaft (s : State) (x : ReportQueue) : (s.setReports x).shaft = s.shaft := rfl
@[simp] theorem State.setFreeCount_shaft (s : State) (x : Nat) : (s.setFreeCount x).shaft = s.shaft := rfl
@[simp] theorem State.setPending_shaft (s : State) (x : List Instr) : (s.setPending x).shaft = s.shaft := rfl
@[simp] theorem State.setAngle_shaft (s : State) (x : Angle) :
    (s.setAngle x).shaft = (x.state, x.totalSlips, s.stand) := rfl

@[simp] theorem raise_shaft (s : State) (src : Source) (bay : Option Bay) (serial : Option Serial) (d : Detail) :
    (raise s src bay serial d).shaft = s.shaft := rfl

@[simp] theorem updateUnit_shaft (s : State) (p : Position) (f : UnitRecord → UnitRecord) :
    (updateUnit s p f).shaft = s.shaft := rfl

@[simp] theorem updateChannel_shaft (s : State) (c : Nat) (f : Channel → Channel) :
    (updateChannel s c f).shaft = s.shaft := rfl

@[simp] theorem updateStream_shaft (s : State) (i : Nat) (f : StreamEntry → StreamEntry) :
    (updateStream s i f).shaft = s.shaft := rfl

@[simp] theorem updateStreamRun_shaft (s : State) (i : Nat) (f : StreamRun → StreamRun) :
    (updateStreamRun s i f).shaft = s.shaft := rfl

@[simp] theorem updateSlot_shaft (s : State) (n : Nat) (f : OrderSlot → OrderSlot) :
    (updateSlot s n f).shaft = s.shaft := by
  unfold updateSlot; split <;> rfl

@[simp] theorem setStats_shaft (s : State) (slot : Nat) (x : Stats) : (setStats s slot x).shaft = s.shaft := by
  unfold setStats; split <;> rfl

@[simp] theorem carryOutSwap_shaft (s : State) (n : Nat) (bay : Option Bay) (serial : Option Serial) :
    (carryOutSwap s n bay serial).shaft = s.shaft := by simp [carryOutSwap]

@[simp] theorem dequeue_shaft (s : State) : (dequeue s).shaft = s.shaft := rfl

@[simp] theorem enqueueReply_shaft (s : State) (r : Reply) : (enqueueReply s r).shaft = s.shaft := rfl

@[simp] theorem pump_shaft (s : State) : (pump s).shaft = s.shaft :=
  shaft_of_angle (pump_lineStep s).angle (pump_lineStep s).stand

/-! ## The Order Engine -/

@[simp] theorem openWindow_shaft (s : State) (g : Nat) (slot : Option Nat) :
    (openWindow s g slot).2.shaft = s.shaft := by
  unfold openWindow; repeat' split
  all_goals rfl

@[simp] theorem withWindow_shaft (s : State) (f : Window → OrderSet → Nat → Window) :
    (withWindow s f).shaft = s.shaft := by
  unfold withWindow; repeat' split
  all_goals rfl

@[simp] theorem engineBoundary_shaft (s : State) (e : Boundary) : (engineBoundary s e).shaft = s.shaft :=
  withWindow_shaft s _

@[simp] theorem engineRecord_shaft (s : State) (a : AngleRecord) (values : List Published) :
    (engineRecord s a values).shaft = s.shaft := withWindow_shaft s _

@[simp] theorem engineBreak_shaft (s : State) : (engineBreak s).shaft = s.shaft := by
  unfold engineBreak; split <;> rfl

@[simp] theorem engineWithdraw_shaft (s : State) (c : Nat) : (engineWithdraw s c).shaft = s.shaft := by
  unfold engineWithdraw; split <;> rfl

@[simp] theorem closeWindow_shaft (s : State) : (closeWindow s).2.shaft = s.shaft :=
  shaft_of_angle (closeWindow_frame s).2.1 (closeWindow_jobStep s).stand

/-! ## The Run-in Sequencer -/

@[simp] theorem placeDrive_shaft (s : State) (c : DriveCommand) : (placeDrive s c).shaft = s.shaft := by
  unfold placeDrive; split <;> rfl

@[simp] theorem issueDriveNow_shaft (s : State) (b : Bool) (v : Int) (r : Nat) (t : Int) :
    (issueDriveNow s b v r t).shaft = s.shaft := placeDrive_shaft _ _

@[simp] theorem issueDrive_shaft (s : State) (b : Bool) (v : Int) (r : Nat) (t : Int) :
    (issueDrive s b v r t).shaft = s.shaft := by
  unfold issueDrive; split <;> simp

@[simp] theorem repeatDrive_shaft (s : State) : (repeatDrive s).shaft = s.shaft := by
  unfold repeatDrive; (repeat' split) <;> simp

@[simp] theorem updateRun_shaft (s : State) (f : SpinRun → SpinRun) : (updateRun s f).shaft = s.shaft := by
  unfold updateRun; split <;> rfl

@[simp] theorem takeOutcome_shaft (s : State) (o : RuninOutcome) : (takeOutcome s o).shaft = s.shaft :=
  shaft_of_angle (takeOutcome_frame s o).2.1 (takeOutcome_jobStep s o).stand

@[simp] theorem holdEntry_shaft (s : State) : (holdEntry s).shaft = s.shaft := by
  unfold holdEntry; (repeat' split) <;> simp

@[simp] theorem enterSettle_shaft (s : State) : (enterSettle s).shaft = s.shaft := by
  unfold enterSettle; (repeat' split) <;> simp

@[simp] theorem beginSegment_shaft (s : State) (i : Nat) : (beginSegment s i).shaft = s.shaft := by
  unfold beginSegment; dsimp only; (repeat' split) <;> simp

@[simp] theorem endHold_shaft (s : State) : (endHold s).shaft = s.shaft := by
  unfold endHold; dsimp only; (repeat' split) <;> simp

@[simp] theorem takeTorque_shaft (s : State) (r : SpinRun) (x : Int) : (takeTorque s r x).shaft = s.shaft := by
  unfold takeTorque; dsimp only; (repeat' split) <;> simp

@[simp] theorem takeOil_shaft (s : State) (r : SpinRun) (x : Int) : (takeOil s r x).shaft = s.shaft := by
  unfold takeOil; dsimp only; (repeat' split) <;> simp

@[simp] theorem runInValue_shaft (s : State) (p : Published) : (runInValue s p).shaft = s.shaft := by
  unfold runInValue; (repeat' split) <;> simp

@[simp] theorem runInSpeed_shaft (s : State) (v : Option Int) : (runInSpeed s v).shaft = s.shaft := by
  unfold runInSpeed; (repeat' split) <;> simp

@[simp] theorem runInLostLock_shaft (s : State) : (runInLostLock s).shaft = s.shaft := updateRun_shaft _ _

@[simp] theorem runInStale_shaft (s : State) (i : Nat) (cfg : StreamConfig) : (runInStale s i cfg).shaft = s.shaft :=
  shaft_of_angle (runInStale_frame s i cfg).2.1 (runInStale_jobStep s i cfg).stand

@[simp] theorem runInChannelLost_shaft (s : State) (c : Nat) : (runInChannelLost s c).shaft = s.shaft :=
  shaft_of_angle (runInChannelLost_frame s c).2.1 (runInChannelLost_jobStep s c).stand

@[simp] theorem writeRunin_shaft (s : State) (r : SpinRun) (b : Bool) : (writeRunin s r b).shaft = s.shaft := by
  unfold writeRunin; split <;> rfl

@[simp] theorem raiseRunin_shaft (s : State) (src : Source) (r : SpinRun) : (raiseRunin s src r).shaft = s.shaft := by
  unfold raiseRunin; split <;> rfl

@[simp] theorem endStopping_shaft (s : State) (r : SpinRun) : (endStopping s r).shaft = s.shaft := by
  unfold endStopping; dsimp only; split <;> simp

@[simp] theorem runInStandstill_shaft (s : State) : (runInStandstill s).shaft = s.shaft := by
  unfold runInStandstill; (repeat' split) <;> simp

@[simp] theorem stopTimedOut_shaft (s : State) (r : SpinRun) : (stopTimedOut s r).shaft = s.shaft := by
  unfold stopTimedOut; dsimp only; split <;> simp

@[simp] theorem writeGuardTime_shaft (s : State) : (writeGuardTime s).shaft = s.shaft := by
  unfold writeGuardTime; split <;> rfl

@[simp] theorem guardEdge_shaft (s : State) (b : Bool) : (guardEdge s b).shaft = s.shaft := by
  unfold guardEdge; dsimp only; split <;> simp

/-! ## The Leak Sequencer -/

theorem onlyLeakAndSlots.shaft {s t : State} (h : onlyLeakAndSlots s t) : t.shaft = s.shaft := by
  rw [onlyLeakAndSlots] at h
  exact (congrArg State.shaft h).trans rfl

@[simp] theorem issueValve_shaft (s : State) (k : ValveKind) : (issueValve s k).shaft = s.shaft :=
  (issueValve_onlyLeakAndSlots s k).shaft

@[simp] theorem repeatValve_shaft (s : State) : (repeatValve s).shaft = s.shaft := by
  unfold repeatValve placeValve; dsimp only; repeat' split
  all_goals rfl

@[simp] theorem updateTest_shaft (s : State) (f : LeakRun → LeakRun) : (updateTest s f).shaft = s.shaft := by
  unfold updateTest; split <;> rfl

@[simp] theorem takeLeakOutcome_shaft (s : State) (o : LeakOutcome) (r : Option LeakResult) :
    (takeLeakOutcome s o r).shaft = s.shaft := (takeLeakOutcome_onlyLeakAndSlots s o r).shaft

@[simp] theorem enterMeasure_shaft (s : State) : (enterMeasure s).shaft = s.shaft := by
  unfold enterMeasure; split <;> rfl

@[simp] theorem enterLeakSettle_shaft (s : State) : (enterLeakSettle s).shaft = s.shaft := by
  unfold enterLeakSettle; dsimp only; (repeat' split) <;> simp [enterPhase]

@[simp] theorem endMeasure_shaft (s : State) : (endMeasure s).shaft = s.shaft := by
  unfold endMeasure; dsimp only; (repeat' split) <;> simp

@[simp] theorem writeLeak_shaft (s : State) (r : LeakRun) : (writeLeak s r).shaft = s.shaft := by
  unfold writeLeak; split <;> rfl

@[simp] theorem raiseLeak_shaft (s : State) (src : Source) (r : LeakRun) : (raiseLeak s src r).shaft = s.shaft := by
  unfold raiseLeak; split <;> rfl

@[simp] theorem endVent_shaft (s : State) (r : LeakRun) : (endVent s r).shaft = s.shaft := by
  unfold endVent; dsimp only; split <;> simp

@[simp] theorem takePressure_shaft (s : State) (r : LeakRun) (x : Int) : (takePressure s r x).shaft = s.shaft := by
  unfold takePressure; dsimp only; (repeat' split) <;> simp

@[simp] theorem leakValue_shaft (s : State) (p : Published) : (leakValue s p).shaft = s.shaft := by
  unfold leakValue; (repeat' split) <;> simp

@[simp] theorem leakStale_shaft (s : State) (cfg : StreamConfig) : (leakStale s cfg).shaft = s.shaft :=
  (leakStale_onlyLeakAndSlots s cfg).shaft

@[simp] theorem leakChannelLost_shaft (s : State) (c : Nat) : (leakChannelLost s c).shaft = s.shaft :=
  (leakChannelLost_onlyLeakAndSlots s c).shaft

@[simp] theorem ventTimedOut_shaft (s : State) (r : LeakRun) : (ventTimedOut s r).shaft = s.shaft := by
  unfold ventTimedOut; dsimp only; split <;> simp

/-! ## Channels -/

@[simp] theorem channelLost_shaft (s : State) (c : Nat) : (channelLost s c).shaft = s.shaft := by simp [channelLost]

@[simp] theorem publish_shaft (s : State) (p : Published) : (publish s p).shaft = s.shaft := by simp [publish]

@[simp] theorem channelValue_shaft (s : State) (c : Nat) (raw : Int) (filled : Bool) :
    (channelValue s c raw filled).1.shaft = s.shaft := by
  unfold channelValue; dsimp only; (repeat' split) <;> simp [channelFaulted]

@[simp] theorem deliverValues_shaft (s : State) (filled : Bool) (bs : List (Option Nat)) (raws : List Int) :
    (deliverValues s filled bs raws).1.shaft = s.shaft := by
  induction bs generalizing s raws with
  | nil => rfl
  | cons b bs ih =>
    cases raws with
    | nil => cases b <;> rfl
    | cons r raws =>
      cases b with
      | none => exact ih s raws
      | some c => exact (ih _ raws).trans (channelValue_shaft s c r filled)

@[simp] theorem channelsGone_shaft (s : State) (bs : List (Option Nat)) : (channelsGone s bs).shaft = s.shaft := by
  rw [channelsGone_eq]; rfl

@[simp] theorem sourceGone_shaft (s : State) (i : Nat) (cfg : StreamConfig) : (sourceGone s i cfg).shaft = s.shaft :=
  shaft_of_angle (sourceGone_frame s i cfg).2.1 (sourceGone_jobStep s i cfg).stand

/-! ## The Request Unit, the ring and the Configuration Loader -/

@[simp] theorem enqueueRequest_shaft (s : State) (q : Request) : (enqueueRequest s q).shaft = s.shaft := by
  unfold enqueueRequest; split <;> rfl

@[simp] theorem enqueueRequests_shaft (qs : List Request) (s : State) :
    (qs.foldl enqueueRequest s).shaft = s.shaft := by
  induction qs generalizing s with
  | nil => rfl
  | cons q qs ih => simp [ih]

@[simp] theorem receiveRequest_shaft (s : State) (src : Nat) (payload : List Byte) :
    (receiveRequest s src payload).shaft = s.shaft := enqueueRequests_shaft _ _

@[simp] theorem assemblyExpires_shaft (s : State) : (assemblyExpires s).shaft = s.shaft := by
  unfold assemblyExpires; split <;> simp

@[simp] theorem countBad_shaft (s : State) : (countBad s).shaft = s.shaft := rfl

@[simp] theorem repeatFrame_shaft (s : State) (bytes : List Byte) : (repeatFrame s bytes).shaft = s.shaft := rfl

@[simp] theorem ringDown_shaft (s : State) : (ringDown s).shaft = s.shaft := rfl

@[simp] theorem forwardFrame_shaft (s : State) (frame : List Byte) : (forwardFrame s frame).shaft = s.shaft := by
  unfold forwardFrame; repeat' split
  all_goals rfl

@[simp] theorem goodArrival_shaft (s : State) : (goodArrival s).shaft = s.shaft := by
  unfold goodArrival; dsimp only; split <;> rfl

@[simp] theorem reportTransmitted_shaft (s : State) (o : Origin) : (reportTransmitted s o).shaft = s.shaft := by
  cases o <;> simp only [reportTransmitted, reportCommand, reportReply, reportSegment] <;> (repeat' split) <;> rfl

@[simp] theorem lineEnds_shaft (s : State) : (lineEnds s).shaft = s.shaft := by
  unfold lineEnds; split <;> simp

@[simp] theorem loadFails_shaft (s : State) (record : Nat) : (loadFails s record).shaft = s.shaft := rfl

@[simp] theorem imageRead_shaft (s : State) (image : Option (List Byte)) : (imageRead s image).shaft = s.shaft := by
  unfold imageRead; split <;> rfl

@[simp] theorem safeCommands_shaft (s : State) (src tag : Nat) : (safeCommands s src tag).shaft = s.shaft := by
  simp [safeCommands]

end Sys2Proof.Machine
end

section
/-! What a set does to a reference's counts (R38 to R45), and the requests and events that the Angle Unit hears of. -/
namespace Sys2Proof.Machine

/-! ## A reference's counts -/

/-- What `Track.Sound` speaks of. -/
def Track.counts (t : Track) : Nat × Option Nat × Option Nat := (t.current, t.last, t.angle16)

theorem captureStep_counts (st : Stand) (t : Track) (c : Pos) : (captureStep st t c).1.counts = t.counts := by
  unfold captureStep; dsimp only; split <;> rfl

theorem indexStep_counts (st : Stand) (t : Track) (pos : Pos) : (indexStep st t pos).1.counts = t.counts := by
  unfold indexStep; dsimp only; (repeat' split) <;> rfl

theorem wrapStep_counts (st : Stand) (t : Track) (pos : Pos) : (wrapStep st t pos).1.counts = t.counts := by
  unfold wrapStep; dsimp only; split <;> rfl

theorem moveSteps_counts (st : Stand) (t : Track) (pos : Pos) (capture : Option Pos) :
    (moveSteps st t pos capture).1.counts = t.counts := by
  unfold moveSteps
  cases st.mode with
  | wrap => exact wrapStep_counts st t pos
  | index =>
    cases capture with
    | none =>
      dsimp only
      split
      · rfl
      · exact indexStep_counts st t pos
    | some c =>
      dsimp only
      split
      · exact captureStep_counts st t c
      · exact (indexStep_counts st _ pos).trans (captureStep_counts st t c)

theorem Track.Sound.of_counts {t u : Track} (h : t.Sound) (hc : u.counts = t.counts) : u.Sound := by
  obtain ⟨hcurrent, hlast, hangle⟩ := by simpa only [Track.counts, Prod.mk.injEq] using hc
  obtain ⟨h1, h2, h3, h4⟩ := h
  rw [← hcurrent] at h1 h2
  rw [← hlast] at h3
  rw [← hangle] at h4
  exact ⟨h1, h2, h3, h4⟩

theorem indexStep_consecutive_le (st : Stand) (t : Track) (pos : Pos) :
    (indexStep st t pos).1.consecutive ≤ t.consecutive + 1 := by
  unfold indexStep; dsimp only; (repeat' split) <;> simp

theorem wrapStep_consecutive (st : Stand) (t : Track) (pos : Pos) :
    (wrapStep st t pos).1.consecutive = t.consecutive := by
  unfold wrapStep; dsimp only; split <;> rfl

/-- A set that finds at most 2 consecutive slips leaves at most 3: a third one at the capture step ends it (R41). -/
theorem moveSteps_consecutive_le {t : Track} (h : t.consecutive ≤ 2) (st : Stand) (pos : Pos) (capture : Option Pos) :
    (moveSteps st t pos capture).1.consecutive ≤ 3 := by
  cases hmode : st.mode with
  | wrap =>
    rw [moveSteps_of_wrap hmode, wrapStep_consecutive]
    omega
  | index =>
    cases capture with
    | none =>
      rw [moveSteps_of_no_capture hmode (by omega)]
      have := indexStep_consecutive_le st t pos
      dsimp only
      omega
    | some c =>
      by_cases h3 : (captureStep st t c).1.consecutive = 3
      · rw [moveSteps_of_third hmode h3, h3]
      · rw [moveSteps_of_capture hmode h3]
        have hc := captureStep_consecutive st t c
        have := indexStep_consecutive_le st (captureStep st t c).1 pos
        dsimp only
        omega

@[simp] theorem angleStep_consecutive (st : Stand) (t : Track) (pos : Pos) :
    (angleStep st t pos).consecutive = t.consecutive := rfl

@[simp] theorem countingStep_consecutive (fs : Nat) (t : Track) (turn : Turn) :
    (countingStep fs t turn).1.consecutive = t.consecutive := by cases turn <;> rfl

/-- The counting step leaves counts inside their values; a track whose count is still 0 has just locked, and no
revolution of it closes (R38, R44). -/
theorem countingStep_sound {t : Track} {turn : Turn} (hcurrent : t.current ≤ 4294967295)
    (hclosed : turn ≠ .none → 1 ≤ t.current) (hlast : ∀ n, t.last = some n → 1 ≤ n ∧ n ≤ 4294967295)
    (hangle : ∀ a, t.angle16 = some a → a < 65536) (fs : Nat) : (countingStep fs t turn).1.Sound := by
  cases turn with
  | none => exact ⟨by simp only [countingStep, satSucc]; split <;> omega, satSucc_le, hlast, hangle⟩
  | slipped kind => exact ⟨le_rfl, by simp [countingStep], hlast, hangle⟩
  | closed kind =>
    refine ⟨le_rfl, by simp [countingStep], ?_, hangle⟩
    rintro n ⟨⟩
    exact ⟨hclosed (by simp), hcurrent⟩

/-- The track that a set leaves behind in LOCKED (R43 to R45). -/
def finishedTrack (st : Stand) (fs : Nat) (t : Track) (turn : Turn) (pos : Pos) : Track :=
  let counted := (countingStep fs (angleStep st t pos) turn).1
  { counted with shaftSpeed := shaftSpeedOf fs counted }

@[simp] theorem finishedTrack_consecutive (st : Stand) (fs : Nat) (t : Track) (turn : Turn) (pos : Pos) :
    (finishedTrack st fs t turn pos).consecutive = t.consecutive := by simp [finishedTrack]

theorem finishedTrack_sound {st : Stand} (hcpr : 1 ≤ st.cpr) {t : Track} {turn : Turn}
    (hcurrent : t.current ≤ 4294967295) (hclosed : turn ≠ .none → 1 ≤ t.current)
    (hlast : ∀ n, t.last = some n → 1 ≤ n ∧ n ≤ 4294967295) (fs : Nat) (pos : Pos) :
    (finishedTrack st fs t turn pos).Sound := by
  refine (countingStep_sound (t := angleStep st t pos) hcurrent hclosed hlast ?_ fs).of_counts rfl
  rw [angleStep_eq]
  rintro a ⟨⟩
  exact t.angle_lt hcpr pos

/-! ## The total slips -/

/-- A count that saturates at 65535, increased `n` times. -/
theorem repeat_sat16 (n k : Nat) : Nat.repeat sat16 n k = if n = 0 then k else min 65535 (k + n) := by
  induction n with
  | zero => rfl
  | succ n ih =>
    rw [Nat.repeat, ih, if_neg n.succ_ne_zero, sat16, satSucc]
    split <;> split <;> omega

theorem repeat_sat16_le {k : Nat} (h : k ≤ 65535) (n : Nat) : Nat.repeat sat16 n k ≤ 65535 := by
  rw [repeat_sat16]
  split <;> omega

/-! ## What `State.AngleSound` asks of a state -/

/-- What is asked of the Angle Unit's state: in LOCKED at most 2 consecutive slips, in FAULT 3, and sound counts. -/
def AngleState.Sound : AngleState → Prop
  | .noReference => True
  | .locked t => t.consecutive ≤ 2 ∧ t.Sound
  | .fault t => t.consecutive = 3 ∧ t.Sound

theorem angleSound_iff (s : State) : s.AngleSound ↔
    (∀ st, s.stand = some st → 1 ≤ st.cpr) ∧ (s.angle.state ≠ .noReference → s.stand.isSome = true) ∧
      s.angle.totalSlips ≤ 65535 ∧ s.angle.state.Sound := by
  constructor
  · rintro ⟨hcpr, hstand, htotal, hlocked, hfault⟩
    refine ⟨hcpr, hstand, htotal, ?_⟩
    cases h : s.angle.state with
    | noReference => trivial
    | locked t => exact hlocked t h
    | fault t => exact hfault t h
  · rintro ⟨hcpr, hstand, htotal, hstate⟩
    refine ⟨hcpr, hstand, htotal, fun t h => ?_, fun t h => ?_⟩
    · rwa [h] at hstate
    · rwa [h] at hstate

/-- From `s` to `t` the Angle Unit stays inside its values. -/
def AngleKept (s t : State) : Prop := s.AngleSound → t.AngleSound

theorem AngleKept.refl (s : State) : AngleKept s s := id

theorem AngleKept.trans {s t u : State} (h : AngleKept s t) (k : AngleKept t u) : AngleKept s u := k ∘ h

theorem AngleKept.ite {p : Prop} [Decidable p] {s a b : State} (ha : AngleKept s a) (hb : AngleKept s b) :
    AngleKept s (if p then a else b) := by split <;> assumption

/-- With the stand record kept, the new state and the new total slips decide. -/
theorem angleSound_of_shaft {s t : State} {x : AngleState} {n : Nat} (h : s.AngleSound)
    (ht : t.shaft = (x, n, s.stand)) (hx : x ≠ .noReference → s.stand.isSome = true) (hn : n ≤ 65535) (hs : x.Sound) :
    t.AngleSound := by
  obtain ⟨hstate, htotal, hstand⟩ := by simpa only [State.shaft, Prod.mk.injEq] using ht
  rw [angleSound_iff, hstate, htotal, hstand]
  exact ⟨h.cpr, hx, hn, hs⟩

theorem AngleKept.of_shaft {s t : State} (h : t.shaft = s.shaft) : AngleKept s t := fun hs =>
  angleSound_of_shaft hs h hs.stand hs.total ((angleSound_iff s).1 hs).2.2.2

/-! ## One set (R38) -/

theorem finishSet_shaft (s : State) (st : Stand) (fs : Nat) (t : Track) (turn : Turn) (pos : Pos) (filled : Bool)
    (values : List Published) :
    (finishSet s st fs t turn pos filled values).shaft =
      (.locked (finishedTrack st fs t turn pos), s.angle.totalSlips, s.stand) := by
  unfold finishSet
  dsimp only
  rw [engineRecord_shaft, runInSpeed_shaft]
  split
  · exact engineBoundary_shaft _ _
  · split
    · exact engineBreak_shaft _
    · rfl

theorem engineBreak_angle (s : State) : (engineBreak s).angle = s.angle := (engineBreak_frame s).2.1

theorem angleFaults_shaft (s : State) (st : Stand) (t : Track) :
    (angleFaults s st t).shaft = (.fault t, s.angle.totalSlips, s.stand) := by
  simp [angleFaults, engineBreak_angle, (engineBreak_jobStep s).stand]

/-- The state that locks has counted no set yet (R38). -/
theorem finishSet_locked_sound {s : State} {st : Stand} (h : s.AngleSound) (hst : s.stand = some st) (fs : Nat)
    (mode : AngleMode) (reference pos : Pos) (filled : Bool) (values : List Published) :
    (finishSet s st fs (Track.locked mode reference) .none pos filled values).AngleSound := by
  refine angleSound_of_shaft h (finishSet_shaft s st fs _ _ pos filled values) (fun _ => by simp [hst]) h.total ⟨?_, ?_⟩
  · simp [Track.locked]
  · exact finishedTrack_sound (h.cpr st hst) (by simp [Track.locked]) (absurd rfl) (by simp [Track.locked]) fs pos

theorem followSet_kept {s : State} {st : Stand} (hst : s.stand = some st) (fs : Nat) (pos : Pos) (capture : Option Pos)
    (filled : Bool) (values : List Published) : AngleKept s (followSet s st fs pos capture filled values) := by
  intro h
  unfold followSet
  cases hstate : s.angle.state with
  | fault t => exact h
  | noReference =>
    dsimp only
    split
    · exact h
    · exact finishSet_locked_sound h hst fs .index _ pos filled values
    · exact finishSet_locked_sound h hst fs .wrap _ pos filled values
  | locked t =>
    obtain ⟨hslips, hsound⟩ := h.locked t hstate
    have hcounts := moveSteps_counts st t pos capture
    have hle := moveSteps_consecutive_le hslips st pos capture
    have hmoved := hsound.of_counts hcounts
    have htotal := repeat_sat16_le h.total (moveSteps st t pos capture).2.2
    have hsome : s.stand.isSome = true := by simp [hst]
    dsimp only
    split
    · next h3 => exact angleSound_of_shaft h (angleFaults_shaft _ _ _) (fun _ => hsome) htotal ⟨h3, hmoved⟩
    · refine angleSound_of_shaft h (finishSet_shaft _ _ _ _ _ _ _ _) (fun _ => hsome) htotal ⟨?_, ?_⟩
      · rw [finishedTrack_consecutive]
        omega
      · exact finishedTrack_sound (h.cpr st hst) hmoved.current (fun _ => hmoved.counted) hmoved.last fs pos

theorem angleSet_kept (s : State) (pos : Pos) (capture : Option Pos) (filled : Bool) (values : List Published) :
    AngleKept s (angleSet s pos capture filled values) := by
  unfold angleSet
  split
  · next st cfg hst _ =>
    have hdetect : AngleKept s (s.setAngle (s.angle.detect st.standstillWindow s.timeBase pos)) := .of_shaft rfl
    have hstand : (s.setAngle (s.angle.detect st.standstillWindow s.timeBase pos)).stand = some st := hst
    exact (hdetect.trans (followSet_kept hstand _ _ _ _ _)).trans (.of_shaft (runInStandstill_shaft _))
  · exact .refl s

/-! ## The reference given up (R46, R48, R49) -/

/-- The Angle Unit goes to NO_REFERENCE, its total slips kept. -/
theorem noReference_kept {s t : State} (h : t.shaft = (.noReference, s.angle.totalSlips, s.stand)) : AngleKept s t :=
  fun hs => angleSound_of_shaft hs h (absurd rfl) hs.total trivial

theorem loseReference_kept (s : State) : AngleKept s (loseReference s) := by
  unfold loseReference
  split
  · exact noReference_kept (runInLostLock_shaft _)
  · exact .refl s

theorem clearHistory_kept (s : State) : AngleKept s (clearHistory s) := .of_shaft rfl

theorem clearAngle_kept (s : State) : AngleKept s (clearAngle s).1 := by
  unfold clearAngle
  split
  · exact noReference_kept rfl
  · exact .refl s

theorem gapEvent_kept (s : State) (i : Nat) : AngleKept s (gapEvent s i) :=
  .ite ((loseReference_kept s).trans (.of_shaft (engineBreak_shaft _))) (.refl s)

/-- A stream that is gone takes the reference with it (R48) and tells the jobs. -/
theorem streamGone_kept (s : State) (i : Nat) (cfg : StreamConfig) : AngleKept s (streamGone s i cfg) := by
  have hangle (t : State) : AngleKept t (angleGone t i) :=
    .ite ((loseReference_kept t).trans (clearHistory_kept _)) (.refl t)
  have hspin (t : State) : AngleKept t (spinGone t i cfg) :=
    .ite (.of_shaft (sourceGone_shaft t i cfg)) (.of_shaft (runInStale_shaft t i cfg))
  rw [streamGone_eq]
  exact (((AngleKept.of_shaft (channelsGone_shaft s cfg.binding)).trans (hangle _)).trans (hspin _)).trans
    (.of_shaft (leakStale_shaft _ cfg))

/-! ## The Stream Intake -/

theorem deliver_kept (s : State) (i : Nat) (cfg : StreamConfig) (set : SampleSet) (filled : Bool) :
    AngleKept s (deliver s i cfg set filled) := by
  have h : AngleKept s (deliverValues s filled cfg.binding set.values).1 := .of_shaft (deliverValues_shaft _ _ _ _)
  unfold deliver
  refine AngleKept.trans ?_ (.of_shaft (updateStreamRun_shaft _ _ _))
  split
  · exact .ite (h.trans (angleSet_kept _ _ _ _ _)) h
  · exact h

theorem acceptSet_kept (s : State) (i : Nat) (cfg : StreamConfig) (q : Nat) (set : SampleSet) :
    AngleKept s (acceptSet s i cfg q set) :=
  (AngleKept.of_shaft (updateStreamRun_shaft s i _)).trans (deliver_kept _ _ _ _ _)

theorem fillBefore_kept (s : State) (i : Nat) (cfg : StreamConfig) (run : StreamRun) (set : SampleSet) :
    AngleKept s (fillBefore s i cfg run set) := by
  unfold fillBefore
  split
  · exact .refl s
  · exact (AngleKept.of_shaft (updateStreamRun_shaft s i _)).trans (deliver_kept _ _ _ _ _)

theorem sequenceCheck_kept (s : State) (i : Nat) (cfg : StreamConfig) (run : StreamRun) (q : Nat) (set : SampleSet) :
    AngleKept s (sequenceCheck s i cfg run q set) := by
  unfold sequenceCheck
  repeat' split
  · exact acceptSet_kept _ _ _ _ _
  · exact acceptSet_kept _ _ _ _ _
  · exact (fillBefore_kept _ _ _ _ _).trans (acceptSet_kept _ _ _ _ _)
  · exact .of_shaft (updateStreamRun_shaft _ _ _)
  · exact ((AngleKept.of_shaft (updateStreamRun_shaft s i _)).trans (gapEvent_kept _ _)).trans
      (acceptSet_kept _ _ _ _ _)

theorem intake_kept (s : State) (i : Nat) (cfg : StreamConfig) (payload : List Byte) :
    AngleKept s (intake s i cfg payload) := by
  unfold intake
  repeat' split
  · exact .refl s
  · exact .of_shaft (updateStreamRun_shaft _ _ _)
  · exact sequenceCheck_kept _ _ _ _ _ _
  · exact acceptSet_kept _ _ _ _ _
  · exact acceptSet_kept _ _ _ _ _

theorem staleExpires_kept (s : State) (i : Nat) : AngleKept s (staleExpires s i) := by
  unfold staleExpires
  split
  · exact .refl s
  · exact (AngleKept.of_shaft (updateStreamRun_shaft s i _)).trans
      ((streamGone_kept _ _ _).trans (.of_shaft (raise_shaft _ _ _ _ _)))

end Sys2Proof.Machine
end

section
/-! Every step keeps the Angle Unit inside its values. -/
namespace Sys2Proof.Machine

/-! ## Requests that leave the Angle Unit alone -/

theorem bindTables_shaft (z : Sizes) (s : State) : (bindTables z s).1.shaft = s.shaft := by
  unfold bindTables; repeat' split
  all_goals rfl

theorem loadVariant_shaft (slot : Nat) (record : Option Variant) (s : State) :
    (loadVariant slot record s).1.shaft = s.shaft := by
  unfold loadVariant; repeat' split
  all_goals rfl

theorem loadProfile_shaft (p : Nat) (segments : Option (List Segment)) (s : State) :
    (loadProfile p segments s).1.shaft = s.shaft := by
  unfold loadProfile; repeat' split
  all_goals rfl

theorem loadOrderSet_shaft (slot : Nat) (set : Option OrderSet) (s : State) :
    (loadOrderSet slot set s).1.shaft = s.shaft := by
  unfold loadOrderSet; (repeat' split) <;> simp

theorem swapOrderSet_shaft (slot : Nat) (s : State) : (swapOrderSet slot s).1.shaft = s.shaft := by
  unfold swapOrderSet; (repeat' split) <;> simp

theorem onStats_shaft (slot : Nat) (f : Stats → Stats) (s : State) : (onStats slot f s).1.shaft = s.shaft := by
  unfold onStats; (repeat' split) <;> simp

theorem setNotice_shaft (settings : Option NoticeSettings) (s : State) :
    (setNotice settings s).1.shaft = s.shaft := by
  unfold setNotice; split <;> rfl

theorem clearNotice_shaft (sources : BitVec 16) (s : State) : (clearNotice sources s).1.shaft = s.shaft := by
  unfold clearNotice; split <;> rfl

theorem loadChannel_shaft (c : Nat) (cfg : Option ChannelConfig) (s : State) :
    (loadChannel c cfg s).1.shaft = s.shaft := by
  unfold loadChannel; repeat' split
  all_goals rfl

theorem clearChannel_shaft (c : Nat) (s : State) : (clearChannel c s).1.shaft = s.shaft := by
  unfold clearChannel; split <;> rfl

theorem channelEnable_shaft (c : Nat) (acquire diagnose : Option Bool) (s : State) :
    (channelEnable c acquire diagnose s).1.shaft = s.shaft := by
  unfold channelEnable; dsimp only; (repeat' split) <;> simp

theorem admitUnit_shaft (serial : Serial) (variant : Nat) (s : State) :
    (admitUnit serial variant s).1.shaft = s.shaft := by
  unfold admitUnit; repeat' split
  all_goals rfl

theorem advanceA_shaft (s : State) : (advanceA s).1.shaft = s.shaft := by
  unfold advanceA; repeat' split
  all_goals rfl

theorem advanceB_shaft (s : State) : (advanceB s).1.shaft = s.shaft := by
  unfold advanceB; repeat' split
  all_goals rfl

@[simp] theorem formReport_shaft (s : State) (u : UnitRecord) (v : Verdict) (basis required : Checks) :
    (formReport s u v basis required).shaft = s.shaft := rfl

@[simp] theorem removeUnit_shaft (s : State) (u : UnitRecord) (bay : Option Bay) (v : Verdict) :
    (removeUnit s u bay v).shaft = s.shaft := rfl

@[simp] theorem releaseStats_shaft (s : State) (u : UnitRecord) (v : Verdict) :
    (releaseStats s u v).shaft = s.shaft := by
  unfold releaseStats; dsimp only; (repeat' split) <;> simp

theorem release_shaft (s : State) : (release s).1.shaft = s.shaft := by
  unfold release; dsimp only; (repeat' split) <;> simp

theorem withdraw_shaft (serial : Serial) (s : State) : (withdraw serial s).1.shaft = s.shaft := by
  unfold withdraw; repeat' split
  all_goals rfl

theorem startSpin_shaft (s : State) : (startSpin s).1.shaft = s.shaft := by
  unfold startSpin; dsimp only; split <;> simp

theorem abortSpin_shaft (s : State) : (abortSpin s).1.shaft = s.shaft := by
  unfold abortSpin; split <;> simp

theorem clearFaultA_shaft (s : State) : (clearFaultA s).1.shaft = s.shaft := by
  unfold clearFaultA; (repeat' split) <;> simp

theorem startLeak_shaft (s : State) : (startLeak s).1.shaft = s.shaft := by
  unfold startLeak; dsimp only; split <;> simp

theorem abortLeak_shaft (s : State) : (abortLeak s).1.shaft = s.shaft := by
  unfold abortLeak; split <;> simp

theorem clearFaultB_shaft (s : State) : (clearFaultB s).1.shaft = s.shaft := by
  unfold clearFaultB; dsimp only; (repeat' split) <;> simp

/-! ## LOAD_STAND (R54, R55) and LOAD_STREAM (R16, R17) -/

/-- Only the kind of LOAD_STAND reads as one, and then with the stated values of R54. -/
theorem cpr_of_readArguments {kind : Nat} {args : List Byte} {st : Stand}
    (h : readArguments kind args = .ok (.loadStand (some st))) : 1 ≤ st.cpr := by
  unfold readArguments at h
  split at h
  case h_13 =>
    obtain ⟨-, -, hlo, -⟩ :=
      (fixedFields_record standOf_reads (fun x y => by simp only [Req.loadStand.injEq]) args st).1 h
    omega
  all_goals
    simp -failIfUnchanged only [fixedFields, noArgument, oneByte, bayArgument, readLoadStream, readLoadProfile,
      readLoadOrderSet, readReadTable] at h
    (repeat' split at h) <;> cases h

theorem cpr_of_form {q : Request} {st : Stand} (h : q.form = .ok (.loadStand (some st))) : 1 ≤ st.cpr := by
  unfold Request.form at h
  split at h
  · cases h
  · exact cpr_of_readArguments h

theorem angleFieldsChange_kept (s : State) (new : Stand) : AngleKept s (angleFieldsChange s new) := by
  unfold angleFieldsChange
  split
  · exact .refl s
  · next old _ =>
    have h : AngleKept s (if old.sameAngle new then s else loseReference s) := .ite (.refl s) (loseReference_kept s)
    exact .ite h (h.trans (clearHistory_kept _))

/-- A loaded stand record with a CPR keeps the Angle Unit sound. -/
theorem setStand_kept (s : State) {st : Stand} (h : 1 ≤ st.cpr) : AngleKept s (s.setStand (some st)) := fun hs =>
  { hs with
    cpr := by rintro _ ⟨⟩; exact h
    stand := fun _ => rfl }

theorem loadStand_kept (record : Option Stand) (h : ∀ st, record = some st → 1 ≤ st.cpr) (s : State) :
    AngleKept s (loadStand record s).1 := by
  unfold loadStand
  repeat' split
  · exact .refl s
  · exact .refl s
  · exact .refl s
  · exact (angleFieldsChange_kept s _).trans (setStand_kept _ (h _ rfl))

theorem loadStream_kept (i : Nat) (config : Option StreamConfig) (s : State) :
    AngleKept s (loadStream i config s).1 := by
  unfold loadStream
  dsimp only
  repeat' split
  · exact .refl s
  · exact .refl s
  · exact .refl s
  · exact (streamGone_kept s i _).trans (.of_shaft (updateStream_shaft _ _ _))
  · exact .of_shaft (updateStream_shaft _ _ _)

/-! ## Every request -/

/-- The effect of every request but RESET keeps the Angle Unit sound; a stand record must have a CPR. -/
theorem effectOf_kept (s : State) : ∀ (r : Req) (effect : State → State × Answer), effectOf r = some effect →
    (∀ st, r = .loadStand (some st) → 1 ≤ st.cpr) → AngleKept s (effect s).1
  | .bind _, _, rfl, _ => .of_shaft (bindTables_shaft _ s)
  | .readStatus, _, rfl, _ => .refl s
  | .setNotice _, _, rfl, _ => .of_shaft (setNotice_shaft _ s)
  | .clearNotice _, _, rfl, _ => .of_shaft (clearNotice_shaft _ s)
  | .loadStream _ _, _, rfl, _ => loadStream_kept _ _ s
  | .loadChannel _ _, _, rfl, _ => .of_shaft (loadChannel_shaft _ _ s)
  | .channelEnable _ _ _, _, rfl, _ => .of_shaft (channelEnable_shaft _ _ _ s)
  | .clearChannel _, _, rfl, _ => .of_shaft (clearChannel_shaft _ s)
  | .readChannel _ _, _, rfl, _ => .of_shaft (congrArg State.shaft (readChannel_state _ _ s))
  | .readAngle, _, rfl, _ => .refl s
  | .clearAngle, _, rfl, _ => clearAngle_kept s
  | .loadStand record, _, rfl, h => loadStand_kept record (fun st hst => h st (congrArg _ hst)) s
  | .loadVariant _ _, _, rfl, _ => .of_shaft (loadVariant_shaft _ _ s)
  | .loadProfile _ _, _, rfl, _ => .of_shaft (loadProfile_shaft _ _ s)
  | .loadOrderSet _ _, _, rfl, _ => .of_shaft (loadOrderSet_shaft _ _ s)
  | .swapOrderSet _, _, rfl, _ => .of_shaft (swapOrderSet_shaft _ s)
  | .readTable _ _, _, rfl, _ => .of_shaft (congrArg State.shaft (readTable_state _ _ s))
  | .admitUnit _ _, _, rfl, _ => .of_shaft (admitUnit_shaft _ _ s)
  | .advance .a, _, rfl, _ => .of_shaft (advanceA_shaft s)
  | .advance .b, _, rfl, _ => .of_shaft (advanceB_shaft s)
  | .release, _, rfl, _ => .of_shaft (release_shaft s)
  | .withdraw _, _, rfl, _ => .of_shaft (withdraw_shaft _ s)
  | .readUnit _ _ _, _, rfl, _ => .of_shaft (congrArg State.shaft (readUnit_state _ _ _ s))
  | .startSpin, _, rfl, _ => .of_shaft (startSpin_shaft s)
  | .abortSpin, _, rfl, _ => .of_shaft (abortSpin_shaft s)
  | .clearFault .a, _, rfl, _ => .of_shaft (clearFaultA_shaft s)
  | .clearFault .b, _, rfl, _ => .of_shaft (clearFaultB_shaft s)
  | .startLeak, _, rfl, _ => .of_shaft (startLeak_shaft s)
  | .abortLeak, _, rfl, _ => .of_shaft (abortLeak_shaft s)
  | .readStats _, _, rfl, _ => .of_shaft (congrArg State.shaft (readStats_state _ s))
  | .clearStats _, _, rfl, _ => .of_shaft (onStats_shaft _ _ s)
  | .releaseVariant _, _, rfl, _ => .of_shaft (onStats_shaft _ _ s)

theorem executeOne_kept {s : State} {q : Request} {effect : State → State × Answer}
    (h : AngleKept (dequeue s) (effect (dequeue s)).1) : AngleKept s (executeOne s q effect) :=
  ((AngleKept.of_shaft (dequeue_shaft s)).trans h).trans
    ((AngleKept.of_shaft (enqueueReply_shaft _ _)).trans (.of_shaft (pump_shaft _)))

theorem executeKind_kept (s : State) {pick : Req → Option (State → State × Answer)}
    (h : ∀ r effect, pick r = some effect → effectOf r = some effect) : AngleKept s (executeKind s pick) := by
  rcases executeKind_cases s pick with he | ⟨q, r, effect, -, hform, hp, he⟩ <;> rw [he]
  · exact .refl s
  · exact executeOne_kept (effectOf_kept _ r effect (h r effect hp) fun st hr => cpr_of_form (hr ▸ hform))

theorem executeBad_kept (s : State) : AngleKept s (executeBad s) := by
  unfold executeBad
  repeat' split
  · exact .refl s
  · exact .refl s
  · exact executeOne_kept (.refl _)

/-! ## Arrivals, resets and the replay -/

theorem handleRow_kept (s : State) (f : Frame) (row : Row) : AngleKept s (handleRow s f row) := by
  unfold handleRow
  cases row with
  | stripped | expired => exact .of_shaft rfl
  | consumed =>
    dsimp only
    split
    · exact .of_shaft (receiveRequest_shaft s _ _)
    · exact .of_shaft rfl
  | matched i cfg =>
    dsimp only
    split
    · exact (AngleKept.of_shaft (forwardFrame_shaft s _)).trans (intake_kept _ _ _ _)
    · exact intake_kept s _ _ _
  | other => exact .of_shaft (forwardFrame_shaft s _)

theorem arrive_kept (s : State) (bytes : List Byte) : AngleKept s (arrive s bytes) := by
  unfold arrive
  repeat' split
  · exact .of_shaft rfl
  · exact .of_shaft rfl
  · exact .of_shaft (forwardFrame_shaft _ _)
  · exact (AngleKept.of_shaft (goodArrival_shaft s)).trans (handleRow_kept _ _ _)

/-- After a power-on or pin reset the Angle Unit is as reset left it (R37). -/
theorem afterReset_kept (s : State) (pins : Pins) : AngleKept s (afterReset s pins) := fun _ =>
  AngleKept.of_shaft (s := State.reset) rfl reset_angleSound

/-- The clearing of a station reset takes the reference and the total slips and leaves the stand record (R170). -/
theorem completeReset_kept (s : State) (src tag : Nat) : AngleKept s (completeReset s src tag) := fun h => by
  refine angleSound_of_shaft h (x := .noReference) (n := 0) ?_ (absurd rfl) (by omega) trivial
  rw [completeReset, enqueueReply_shaft, clearWork_eq]
  rfl

theorem executeReset_kept (s : State) : AngleKept s (executeReset s) := by
  unfold executeReset
  repeat' split
  · exact .refl s
  · refine ((AngleKept.of_shaft (dequeue_shaft s)).trans ?_).trans (.of_shaft (pump_shaft _))
    exact .ite (.of_shaft (safeCommands_shaft _ _ _)) (completeReset_kept _ _ _)
  · exact .refl s

theorem replayRequest_kept (s : State) (q : Request) : AngleKept s (replayRequest s q).1 := by
  unfold replayRequest
  split
  · exact .refl s
  · next r hform =>
    split
    · exact .refl s
    · exact effectOf_kept s r _ ‹_› fun st hr => cpr_of_form (hr ▸ hform)

theorem replayRecord_kept (s : State) (assembly : Option Assembly) (record : List Byte) :
    AngleKept s (replayRecord s assembly record).1 := by
  unfold replayRecord
  dsimp only
  repeat' split
  · exact .refl s
  · exact .of_shaft rfl
  · exact .refl s
  · exact replayRequest_kept s _

theorem replayNext_kept (s : State) (next : Nat) (record : List Byte) (rest : List (List Byte))
    (assembly : Option Assembly) : AngleKept s (replayNext s next record rest assembly) := by
  refine (replayRecord_kept s assembly record).trans (.of_shaft ?_)
  unfold replayNext
  dsimp only
  repeat' split
  all_goals rfl

/-! ## Every step -/

theorem whenDue_kept {s : State} {due : Bool} {effect : State → State} (h : AngleKept s (effect s)) :
    AngleKept s (whenDue s due effect) := by
  rcases whenDue_cases s due effect with he | ⟨-, -, he⟩ <;> rw [he]
  · exact .refl s
  · exact h.trans (.of_shaft (pump_shaft _))

theorem whenDue_kept_of_shaft {s : State} {due : Bool} {effect : State → State} (h : (effect s).shaft = s.shaft) :
    AngleKept s (whenDue s due effect) := whenDue_kept (.of_shaft h)

theorem exec_angleKept {c : Instr} {s t : State} (h : exec c s = .next t) : AngleKept s t := by
  cases hp : pickOf c with
  | some pick =>
    rw [exec_of_pickOf hp] at h
    cases h
    exact executeKind_kept s (effectOf_of_pickOf hp)
  | none =>
    cases c with
    | powerOn | pinReset => cases h; exact afterReset_kept s _
    | resetEnd straps load asserted =>
      cases h
      split
      · exact (afterReset_kept s _).trans (.of_shaft (State.setLoader_shaft _ _))
      · exact .refl s
    | configImageRead image => cases h; exact whenDue_kept_of_shaft (imageRead_shaft s image)
    | configRecordReplay =>
      simp only [exec, execConfigRecordReplay] at h
      split at h <;> cases h
      · exact whenDue_kept (replayNext_kept s _ _ _ _)
      · exact .refl s
    | frameArrival bytes => cases h; exact whenDue_kept (arrive_kept s bytes)
    | fragment => cases h; exact whenDue_kept_of_shaft (countBad_shaft s)
    | transmissionEnd => cases h; exact whenDue_kept_of_shaft (lineEnds_shaft s)
    | ringDownTimeout => cases h; exact whenDue_kept_of_shaft (ringDown_shaft s)
    | staleTimeout entry => cases h; exact whenDue_kept (staleExpires_kept s entry)
    | guard asserted =>
      cases h
      split
      · exact .refl s
      · exact (AngleKept.of_shaft (State.setPins_shaft s _)).trans (whenDue_kept_of_shaft (guardEdge_shaft _ _))
    | assemblyTimeout => cases h; exact whenDue_kept_of_shaft (assemblyExpires_shaft s)
    | rampEnd => cases h; exact whenDue_kept_of_shaft (enterSettle_shaft s)
    | settleEnd => cases h; exact whenDue_kept_of_shaft (holdEntry_shaft s)
    | holdEnd => cases h; exact whenDue_kept_of_shaft (endHold_shaft s)
    | speedPersistExpiry => cases h; exact whenDue_kept_of_shaft (takeOutcome_shaft s _)
    | driveRefresh => cases h; exact whenDue_kept_of_shaft (repeatDrive_shaft s)
    | stopTimeout =>
      simp only [exec, execStopTimeout] at h
      split at h <;> cases h
      · exact .refl s
      · exact whenDue_kept_of_shaft (stopTimedOut_shaft s _)
    | fillTimeout => cases h; exact whenDue_kept_of_shaft (takeLeakOutcome_shaft s _ _)
    | leakSettleEnd => cases h; exact whenDue_kept_of_shaft (enterMeasure_shaft s)
    | measureEnd => cases h; exact whenDue_kept_of_shaft (endMeasure_shaft s)
    | ventTimeout =>
      simp only [exec, execVentTimeout] at h
      split at h <;> cases h
      · exact .refl s
      · exact whenDue_kept_of_shaft (ventTimedOut_shaft s _)
    | valveRefresh => cases h; exact whenDue_kept_of_shaft (repeatValve_shaft s)
    | badRequest => cases h; exact executeBad_kept s
    | reset => cases h; exact executeReset_kept s
    | stationResetClearing =>
      simp only [exec, execStationResetClearing] at h
      split at h <;> cases h
      · exact .refl s
      · exact whenDue_kept (completeReset_kept s _ _)
    | _ => cases hp

theorem idleNext_shaft (s : State) : (idleNext s).2.shaft = s.shaft := by
  unfold idleNext tick
  repeat' split
  all_goals rfl

theorem step_angleKept {s t : State} (h : step s = .next t) : AngleKept s t := by
  have hidle := AngleKept.of_shaft (idleNext_shaft s)
  unfold step at h
  split at h
  · exact (AngleKept.of_shaft (State.setPending_shaft s _)).trans (exec_angleKept h)
  · split at h
    · next hn => rw [hn] at hidle; exact hidle.trans (exec_angleKept h)
    · next hn => rw [hn] at hidle; cases h; exact hidle

/-- Settles O57: `step_angleKept` says it of each step, whatever command or event it runs. -/
theorem everyStepKeepsTheAngleSound : Obligations.EveryStepKeepsTheAngleSound := fun _ _ hs h => step_angleKept h hs

end Sys2Proof.Machine
end

section
/-! One set followed through the Angle Unit (R38, R44, R45, R47), the third consecutive slip (R41), and what clears it
(R49). -/
namespace Sys2Proof.Machine

/-! ## Counting and speed (R44, R45) -/

/-- A closed revolution keeps its count; it is timed exactly when it begins and ends at the same kind of point (R44). -/
theorem countingStep_of_closed (fs : Nat) (t : Track) (kind : PointKind) :
    let speed := if t.startKind = kind then some (revolutionSpeed fs t.current t.direction) else none
    countingStep fs t (.closed kind) =
      ({ t with last := some t.current, revolutions := t.revolutions + 1, current := 1, startKind := kind,
                revSpeed := speed.or t.revSpeed },
       some { revolutions := t.revolutions + 1, count := t.current, speed := speed, direction := t.direction }) := by
  by_cases h : t.startKind = kind <;> simp [countingStep, h]

theorem shaftSpeedOf_of_none {t : Track} (h : t.revSpeed = none) (fs : Nat) : shaftSpeedOf fs t = none := by
  simp only [shaftSpeedOf, h]

/-- The published speed: the last revolution's magnitude, pulled down by the revolution in progress, in the direction of
travel (R45). -/
theorem shaftSpeedOf_of_some {t : Track} {v : Int} (h : t.revSpeed = some v) (fs : Nat) :
    ∃ w, shaftSpeedOf fs t = some w ∧ w.natAbs = min v.natAbs (240 * fs / t.current) ∧
      (t.direction = .forward → 0 ≤ w) ∧ (t.direction = .reverse → w ≤ 0) := by
  simp only [shaftSpeedOf, h]
  cases t.direction with
  | forward => exact ⟨_, rfl, Int.natAbs_natCast _, fun _ => Int.natCast_nonneg _, nofun⟩
  | reverse =>
    exact ⟨_, rfl, by rw [Int.natAbs_neg, Int.natAbs_natCast], nofun, fun _ => neg_nonpos.2 (Int.natCast_nonneg _)⟩

/-! ## Handling by state (R38) -/

theorem angleSet_of_no_source {s : State} (h : s.stand = none ∨ s.source = none) (pos : Pos) (capture : Option Pos)
    (filled : Bool) (values : List Published) : angleSet s pos capture filled values = s := by
  unfold angleSet
  split
  · next hst hcfg => simp [hst, hcfg] at h
  · rfl

theorem angleSet_of_source {s : State} {st : Stand} {cfg : StreamConfig} (hst : s.stand = some st)
    (hcfg : s.source = some cfg) (pos : Pos) (capture : Option Pos) (filled : Bool) (values : List Published) :
    angleSet s pos capture filled values = runInStandstill (followSet
      (s.setAngle (s.angle.detect st.standstillWindow s.timeBase pos)) st cfg.fs pos capture filled values) := by
  simp only [angleSet, hst, hcfg]

/-- The total slips after a set that counts `n` (R41). -/
def slipsAfter (total n : Nat) : Nat := if n = 0 then total else min 65535 (total + n)

section
variable {s : State} (st : Stand) (fs : Nat) (pos : Pos) (capture : Option Pos) (filled : Bool)
  (values : List Published)

theorem followSet_of_fault {t : Track} (h : s.angle.state = .fault t) :
    followSet s st fs pos capture filled values = s := by simp only [followSet, h]

theorem followSet_of_unlocked_index (h : s.angle.state = .noReference) (hmode : st.mode = .index) :
    followSet s st fs pos capture filled values =
      match capture with
      | none => s
      | some c => finishSet s st fs (Track.locked .index c) .none pos filled values := by
  cases capture <;> simp only [followSet, h, hmode]

theorem followSet_of_unlocked_wrap (h : s.angle.state = .noReference) (hmode : st.mode = .wrap) :
    followSet s st fs pos capture filled values =
      finishSet s st fs (Track.locked .wrap pos) .none pos filled values := by
  simp only [followSet, h, hmode]

/-- A set in LOCKED: the steps of R38 to R42, their slips counted, then FAULT at the third consecutive slip or the rest
of the set. -/
theorem followSet_of_locked {t : Track} (h : s.angle.state = .locked t) :
    followSet s st fs pos capture filled values =
      let m := moveSteps st t pos capture
      let s1 := s.setAngle { s.angle with totalSlips := slipsAfter s.angle.totalSlips m.2.2 }
      if m.1.consecutive = 3 then angleFaults s1 st m.1 else finishSet s1 st fs m.1 m.2.1 pos filled values := by
  simp only [followSet, h, repeat_sat16, slipsAfter]

end

/-- Settles O34. -/
theorem revolutionsAreCountedAndTimed : Obligations.RevolutionsAreCountedAndTimed := by
  refine ⟨fun fs t => rfl, fun fs t kind => rfl, fun fs t kind => ?_, fun fs t h => shaftSpeedOf_of_none h fs,
    fun fs t v h => shaftSpeedOf_of_some h fs,
    fun s pos capture filled values => ⟨fun h => angleSet_of_no_source h pos capture filled values,
      fun st cfg hst hcfg => angleSet_of_source hst hcfg pos capture filled values⟩,
    fun s st fs pos capture filled values => ⟨fun h => ⟨?_, ?_, fun hmode => ?_⟩, fun t h h3 => ?_⟩,
    fun s st fs t turn pos filled values => ?_⟩
  · intro magnitude speed
    have hspeed : (if t.startKind = kind then some (revolutionSpeed fs t.current t.direction) else none) = speed := by
      simp only [speed, magnitude]
      split
      · cases t.direction <;> rfl
      · rfl
    rw [countingStep_of_closed, hspeed]
    cases speed
    · rfl
    · rfl
  · rintro hmode rfl
    exact followSet_of_unlocked_index st fs pos none filled values h hmode
  · rintro c hmode rfl
    exact followSet_of_unlocked_index st fs pos (some c) filled values h hmode
  · exact followSet_of_unlocked_wrap st fs pos capture filled values h hmode
  · rw [followSet_of_locked st fs pos capture filled values h]
    exact if_neg h3
  · intro counted t' s1 told angle16 hangle
    have htold : (match counted.2 with
        | some e => engineBoundary s1 e
        | none => (match turn with | .slipped _ => engineBreak s1 | _ => s1)) = told := by
      cases turn <;> rfl
    have hfinish : finishSet s st fs t turn pos filled values = engineRecord (runInSpeed told t'.shaftSpeed)
        { angle16 := t'.angle16.getD 0, filled := filled, direction := t'.direction } values := by
      rw [← htold]
      rfl
    rw [hfinish, hangle, Option.getD_some]

/-! ## The third consecutive slip (R41) -/

/-- A source of notices is pending. -/
def State.pendingAt (s : State) (src : Source) : Prop := (s.notices.record src).occurrence ≠ none

theorem pendingAt_of_notices {s t : State} {src : Source} (hn : t.notices = s.notices) (h : s.pendingAt src) :
    t.pendingAt src := by rwa [State.pendingAt, hn]

theorem raise_pendingAt {s : State} (hlen : s.notices.records.length = 14) {src : Source} (h : s.pendingAt src)
    (other : Source) (bay : Option Bay) (serial : Option Serial) (d : Detail) :
    (raise s other bay serial d).pendingAt src := by
  by_cases ho : src = other
  · subst ho
    exact raise_pending hlen src bay serial d
  · rw [State.pendingAt, raise, State.setNotices_notices, (s.notices.record_setRecord other _ hlen).2 src ho]
    exact h

/-- Closing a window raises one notice at most, and clears none. -/
theorem closeWindow_pendingAt {s : State} (hlen : s.notices.records.length = 14) {src : Source} (h : s.pendingAt src) :
    (closeWindow s).2.pendingAt src := by
  have hswap (t : State) (ht : t.notices = s.notices) (n : Nat) (bay : Option Bay) (serial : Option Serial) :
      (carryOutSwap t n bay serial).pendingAt src := by
    have hn : (updateSlot t n OrderSlot.swapped).notices = s.notices := by
      rw [← ht]
      unfold updateSlot
      split <;> rfl
    exact raise_pendingAt (by rwa [hn]) (pendingAt_of_notices hn h) _ _ _ _
  unfold closeWindow
  split
  · exact h
  · split
    · exact h
    · dsimp only
      split_ifs
      · exact hswap _ (by simp only [updateUnit, State.setUnits_notices, State.setEngine_notices]) _ _ _
      · exact pendingAt_of_notices (by simp only [updateUnit, State.setUnits_notices, State.setEngine_notices]) h

theorem takeOutcome_pendingAt {s : State} (hlen : s.notices.records.length = 14) {src : Source} (h : s.pendingAt src)
    (o : RuninOutcome) : (takeOutcome s o).pendingAt src := by
  by_cases hrun : ∃ r, s.runIn.run = some r ∧ r.phase.supervised = true
  · obtain ⟨r, hr, hs⟩ := hrun
    rw [takeOutcome_eq hr hs, State.pendingAt]
    dsimp only
    unfold windowClosed
    split
    · exact closeWindow_pendingAt hlen h
    · exact h
  · rwa [takeOutcome_of_unsupervised (by simpa using hrun)]

theorem runInLostLock_notices (s : State) : (runInLostLock s).notices = s.notices := by
  unfold runInLostLock updateRun; split <;> rfl

theorem engineBreak_setAngle (s : State) (x : Angle) : engineBreak (s.setAngle x) = (engineBreak s).setAngle x := by
  unfold engineBreak
  cases h : s.engine.window with
  | none => simp only [State.setAngle_engine, h]
  | some w => simp only [State.setAngle_engine, h]; rfl

/-- What the third consecutive slip does (R41), where the set has changed the Angle Unit alone. -/
theorem angleFaults_setAngle (s : State) (st : Stand) (t : Track) (x : Angle) : angleFaults (s.setAngle x) st t =
    takeOutcome (runInLostLock (raise ((engineBreak s).setAngle { x with state := .fault t }) .angleFault (some .a)
      (s.serialAt .bayA) (.number st.angleSource))) (.aborted .angle) := by
  have hserial (y : Angle) : ((engineBreak s).setAngle y).serialAt .bayA = s.serialAt .bayA := by
    unfold engineBreak
    split <;> rfl
  have hangle (y : Angle) : ((engineBreak s).setAngle x).setAngle y = (engineBreak s).setAngle y := rfl
  unfold angleFaults
  rw [engineBreak_setAngle]
  simp only [hangle, State.setAngle_angle, hserial]

theorem angleFaults_pendingAt {s : State} (hlen : s.notices.records.length = 14) (st : Stand) (t : Track) :
    (angleFaults s st t).pendingAt .angleFault := by
  have htold := (engineBreak_jobStep s).records.trans hlen
  unfold angleFaults
  dsimp only
  generalize hs2 : (engineBreak s).setAngle { (engineBreak s).angle with state := .fault t } = s2
  have hlen2 : s2.notices.records.length = 14 := by rw [← hs2]; exact htold
  refine takeOutcome_pendingAt ?_ (pendingAt_of_notices (runInLostLock_notices _) (raise_pending hlen2 _ _ _ _)) _
  rw [runInLostLock_notices]
  exact (raise_jobStep s2 _ _ _ _).records.trans hlen2

/-- Settles O32. -/
theorem thirdSlipFaultsUntilCleared : Obligations.ThirdSlipFaultsUntilCleared := by
  refine ⟨fun s st fs t pos capture filled values hlen h h3 => ?_,
    fun s st fs t pos capture filled values h => followSet_of_fault st fs pos capture filled values h,
    fun s q t h hf => answers_of_effect h rfl rfl ?_, fun s q h hf => answers_of_effect h rfl rfl ?_,
    fun s => ⟨fun t h => ?_, fun h => ?_⟩⟩
  · intro u m total told faulted
    have hfaults : u = angleFaults (s.setAngle { s.angle with totalSlips := total }) st m.1 :=
      (followSet_of_locked st fs pos capture filled values h).trans (if_pos h3)
    have hu := hfaults.trans (angleFaults_setAngle s st m.1 { s.angle with totalSlips := total })
    refine ⟨?_, ?_, hu⟩
    · rw [hfaults]
      exact congrArg Prod.fst (angleFaults_shaft _ st m.1)
    · have hset : (s.setAngle { s.angle with totalSlips := total }).notices.records.length = 14 := hlen
      rw [hfaults]
      exact angleFaults_pendingAt hset st m.1
  · have hangle : (dequeue s).angle.state = .fault t := hf
    simp only [clearAngle, hangle]
    rfl
  · unfold clearAngle
    split
    · next t ht => exact absurd ht (hf t)
    · rfl
  · simp only [loseReference, h]
  · unfold loseReference
    split
    · next t ht => exact absurd ht (h t)
    · rfl

end Sys2Proof.Machine
end

section
/-! BIND and the loads of the tables (R51, R54 to R56, R58, R60): each effect as its list of reasons. -/
namespace Sys2Proof.Machine

/-! ## LOAD_STAND (R54, R55) -/

theorem Stand.sameAngle_iff (x y : Stand) : x.sameAngle y = true ↔
    x.angleSource = y.angleSource ∧ x.cpr = y.cpr ∧ x.mode = y.mode ∧ x.tolerance = y.tolerance := by
  simp [Stand.sameAngle, and_assoc]

/-- The Angle Unit without its reference (R48). -/
def Angle.unlocked (u : Angle) : Angle :=
  match u.state with
  | .locked _ => { u with state := .noReference }
  | _ => u

/-- The Angle Unit after a stand record is loaded over another (R46, R48, R55). -/
def Angle.refitted (u : Angle) (old new : Stand) : Angle :=
  let a := if old.angleSource = new.angleSource ∧ old.cpr = new.cpr ∧ old.mode = new.mode ∧
    old.tolerance = new.tolerance then u else u.unlocked
  if old.angleSource = new.angleSource then a else a.forgotten

/-- Out of any run-in, losing the reference changes the Angle Unit alone. -/
theorem loseReference_of_idle {s : State} (h : s.runIn.run = none) : loseReference s = s.setAngle s.angle.unlocked := by
  unfold loseReference Angle.unlocked
  cases hstate : s.angle.state with
  | locked t => simp only [runInLostLock, updateRun, State.setAngle_runIn, h]
  | noReference | fault => rfl

theorem angleFieldsChange_of_unloaded {s : State} (h : s.stand = none) (new : Stand) : angleFieldsChange s new = s := by
  simp only [angleFieldsChange, h]

theorem angleFieldsChange_of_idle {s : State} {old : Stand} (h : s.stand = some old) (hrun : s.runIn.run = none)
    (new : Stand) : angleFieldsChange s new = s.setAngle (s.angle.refitted old new) := by
  simp only [angleFieldsChange, h, Stand.sameAngle_iff, loseReference_of_idle hrun, Angle.refitted]
  split_ifs <;> rfl

/-! ## LOAD_VARIANT (R56) and LOAD_PROFILE (R58) -/

theorem idTaken_iff (id slot : Nat) (variants : List VariantSlot) : idTaken id slot variants = true ↔
    ∃ (j : Nat) (x : VariantSlot) (v : Variant), j ≠ slot ∧ variants[j]? = some x ∧ x.record = some v ∧ v.id = id := by
  simp only [idTaken, List.any_eq_true, List.mem_range, Bool.and_eq_true, bne_iff_ne]
  constructor
  · rintro ⟨j, -, hj, hid⟩
    cases hv : variants[j]?.bind VariantSlot.record with
    | none => simp [hv] at hid
    | some v =>
      obtain ⟨x, hx, hrec⟩ := Option.bind_eq_some_iff.1 hv
      exact ⟨j, x, v, hj, hx, hrec, by simpa [hv] using hid⟩
  · rintro ⟨j, x, v, hj, hx, hrec, hid⟩
    exact ⟨j, (List.getElem?_eq_some_iff.1 hx).1, hj, by simpa [hx, hrec] using hid⟩

/-- A segment names an analysis slot beyond the partition (R58). -/
theorem any_slot_beyond (segs : List Segment) (o : Nat) :
    (segs.any fun seg => match seg.slot with | some n => decide (o ≤ n) | none => false) = true ↔
      (segs.all fun seg => seg.slotBelow o) = false := by
  rw [← Bool.not_eq_true', List.not_all_eq_any_not]
  refine iff_of_eq (congrArg (fun f => segs.any f = true) (funext fun seg => ?_))
  unfold Segment.slotBelow
  cases seg.slot with
  | none => rfl
  | some n => simp [← decide_not]

/-! ## The requests -/

theorem loadStand_answers (s : State) (r : Stand) :
    let angle := match s.stand with | none => s.angle | some old => s.angle.refitted old r
    loadStand (some r) s = firstAnswer s
      [(decide (r.driveNode = s.ring.node) || decide (r.valveNode = s.ring.node), .badValue),
       (s.runIn.run.isSome || s.leak.run.isSome, .inUse)] ((s.setAngle angle).setStand (some r)) := by
  intro angle
  simp only [loadStand, firstAnswer_cons, ne_eq, reduceCtorEq, not_false_eq_true, firstAnswer_nil, Bool.or_eq_true,
    decide_eq_true_eq]
  by_cases hjob : s.runIn.run.isSome = true ∨ s.leak.run.isSome = true
  · simp only [if_pos hjob]
  · have hrun : s.runIn.run = none := by simpa using (not_or.1 hjob).1
    have hchange : angleFieldsChange s r = s.setAngle angle := by
      simp only [angle]
      cases hst : s.stand with
      | none => exact angleFieldsChange_of_unloaded hst r
      | some old => exact angleFieldsChange_of_idle hst hrun r
    rw [hchange]

theorem loadVariant_answers {s : State} {t : Tables} (ht : s.tables = some t) (slot : Nat) (v : Variant) :
    loadVariant slot (some v) s = firstAnswer s
      [(decide (t.variants.length ≤ slot) || decide (t.sizes.p ≤ v.profile), .badValue),
       ((match (t.variants[slot]?).bind VariantSlot.record with
         | some old => s.units.any (fun u => u.variantId = old.id)
         | none => false), .inUse),
       (idTaken v.id slot t.variants, .badValue)]
      (s.setTables (some { t with
        variants := modifyAt (fun _ => { record := some v, stats := Stats.zero }) t.variants slot })) := by
  simp only [loadVariant, ht, firstAnswer_cons, ne_eq, reduceCtorEq, not_false_eq_true, firstAnswer_nil,
    Bool.or_eq_true, decide_eq_true_eq]
  cases hslot : t.variants[slot]? with
  | none => rw [if_pos (.inl (List.getElem?_eq_none_iff.1 hslot))]
  | some old =>
    have hlt : ¬t.variants.length ≤ slot := Nat.not_le.2 (List.getElem?_eq_some_iff.1 hslot).1
    simp only [hlt, false_or]
    rfl

theorem loadProfile_answers {s : State} {t : Tables} (ht : s.tables = some t) (p : Nat) (segs : List Segment) :
    loadProfile p (some segs) s = firstAnswer s
      [(decide (t.sizes.p ≤ p) || decide (segs.length = 0) || decide (t.sizes.s < segs.length) ||
          segs.any (fun seg => match seg.slot with | some n => decide (t.sizes.o ≤ n) | none => false), .badValue),
       (s.runIn.run.isSome && (match s.variantAtA with | some v => decide (v.profile = p) | none => false), .inUse)]
      (s.setTables (some { t with profiles := modifyAt (fun _ => some segs) t.profiles p })) := by
  simp only [loadProfile, ht, firstAnswer_cons, ne_eq, reduceCtorEq, not_false_eq_true, firstAnswer_nil,
    Bool.or_eq_true (_ || _), Bool.or_eq_true (decide _), decide_eq_true_eq, any_slot_beyond, or_assoc]
  rfl

theorem loadOrderSet_answers {s : State} {t : Tables} (ht : s.tables = some t) (slot : Nat) (set : OrderSet) :
    loadOrderSet slot (some set) s = firstAnswer s
      [(decide (t.sizes.o ≤ slot) || decide (t.sizes.k < set.orders.length), .badValue)]
      (s.setTables (some { t with
        orderSets := modifyAt (fun o => { o with shadow := some set }) t.orderSets slot })) := by
  simp only [loadOrderSet, ht, firstAnswer_cons, ne_eq, reduceCtorEq, not_false_eq_true, firstAnswer_nil,
    Bool.or_eq_true, decide_eq_true_eq, updateSlot]

theorem bindTables_answers (s : State) (z : Sizes) : bindTables z s = firstAnswer s
    [(s.tables.isSome, .alreadyBound), (!z.inRange, .badValue), (decide (4096 < z.cost), .noSpace)]
    (s.setTables (some (Tables.empty z))) := by
  simp only [bindTables, firstAnswer_cons, ne_eq, reduceCtorEq, not_false_eq_true, firstAnswer_nil, decide_eq_true_eq]

/-- The loads of an unbound part (R52). -/
theorem loads_of_unbound {s : State} (h : s.tables = none) :
    (∀ slot v, loadVariant slot v s = refuse s .notBound) ∧ (∀ p x, loadProfile p x s = refuse s .notBound) ∧
      ∀ slot x, loadOrderSet slot x s = refuse s .notBound := by
  simp only [loadVariant, loadProfile, loadOrderSet, h, implies_true, and_self]

/-- The loads of a record with a field outside its stated values (R56, R58, R60). -/
theorem loads_of_illegal {s : State} {t : Tables} (h : s.tables = some t) :
    (∀ slot, loadVariant slot none s = refuse s .badValue) ∧ (∀ p, loadProfile p none s = refuse s .badValue) ∧
      ∀ slot, loadOrderSet slot none s = refuse s .badValue := by
  simp only [loadVariant, loadProfile, loadOrderSet, h, implies_true, and_self]

/-- Settles O36. -/
theorem tableRequestsCheckAndWrite : Obligations.TableRequestsCheckAndWrite := by
  refine ⟨fun s q z h => answersFirst_of_firstAnswer h rfl rfl (bindTables_answers _ z),
    fun s q h => answers_of_effect h rfl rfl rfl, fun s q r h => ?_, fun s q hnone => ?_, fun s q hsome => ?_,
    fun s q t slot v ht h => answersFirst_of_firstAnswer h rfl rfl (loadVariant_answers (s := dequeue s) ht slot v),
    idTaken_iff,
    fun s q t p segs ht h => answersFirst_of_firstAnswer h rfl rfl (loadProfile_answers (s := dequeue s) ht p segs),
    fun s q t slot set ht h =>
      answersFirst_of_firstAnswer h rfl rfl (loadOrderSet_answers (s := dequeue s) ht slot set)⟩
  · intro lost angle
    have hangle : (match s.stand with | none => s.angle | some old => s.angle.refitted old r) = angle := by
      simp only [angle, lost]
      cases s.stand <;> rfl
    rw [← hangle]
    exact answersFirst_of_firstAnswer h rfl rfl (loadStand_answers (dequeue s) r)
  · obtain ⟨hvariant, hprofile, horders⟩ := loads_of_unbound (s := dequeue s) hnone
    exact ⟨fun slot v h => answers_of_effect h rfl rfl (hvariant slot v),
      fun p x h => answers_of_effect h rfl rfl (hprofile p x),
      fun slot x h => answers_of_effect h rfl rfl (horders slot x)⟩
  · obtain ⟨t, ht⟩ := Option.ne_none_iff_exists'.1 hsome
    obtain ⟨hvariant, hprofile, horders⟩ := loads_of_illegal (s := dequeue s) ht
    exact ⟨fun slot h => answers_of_effect h rfl rfl (hvariant slot),
      fun p h => answers_of_effect h rfl rfl (hprofile p),
      fun slot h => answers_of_effect h rfl rfl (horders slot)⟩

end Sys2Proof.Machine
end

section
/-! A block in flight (R106, R107, R109 to R111) and the events that reach the open window (R47). -/
namespace Sys2Proof.Machine

/-! ## Boundaries (R106) -/

/-- A closed block leaves the window's orders and channels as they were. -/
theorem closeBlock_lists (w : Window) (set : OrderSet) (fs : Nat) (long : Bool) (b : Block) :
    (closeBlock w set fs long b).orderValues = w.orderValues ∧ (closeBlock w set fs long b).channels = w.channels := by
  unfold closeBlock
  dsimp only
  split <;> exact ⟨rfl, rfl⟩

theorem Window.boundary_of_waiting {w : Window} (h : w.block = none) (set : OrderSet) (fs : Nat) (e : Boundary) :
    w.boundary set fs e = w.begin := by
  simp only [Window.boundary, h]

theorem Window.boundary_of_untimed {w : Window} {b : Block} {e : Boundary} (h : w.block = some b) (he : e.speed = none)
    (set : OrderSet) (fs : Nat) : w.boundary set fs e = { w.spoilAll with block := none }.begin := by
  simp only [Window.boundary, h, he]

theorem Window.boundary_of_timed {w : Window} {b : Block} {e : Boundary} {v : Int} (h : w.block = some b)
    (he : e.speed = some v) (set : OrderSet) (fs : Nat) :
    w.boundary set fs e =
      let taken := b.takeRevolution v e.direction
      if b.r + 1 < set.revs then { w with block := some { taken with r := b.r + 1 } }
      else (closeBlock w set fs false taken).begin := by
  simp only [Window.boundary, h, he]

/-- The block that begins after another one closed is the window's fresh one. -/
theorem Window.begin_closeBlock (w : Window) (set : OrderSet) (fs : Nat) (long : Bool) (b : Block) :
    (closeBlock w set fs long b).begin = { closeBlock w set fs long b with
      block := some (Block.begun w.orderValues.length w.channels.length) } := by
  obtain ⟨horders, hchannels⟩ := closeBlock_lists w set fs long b
  simp only [Window.begin, horders, hchannels]

/-- A revolution in another direction than the block's first one makes the block mixed (R106). -/
theorem Block.takeRevolution_mixed (b : Block) (v : Int) (dir : Direction) :
    (b.takeRevolution v dir).mixed = true ↔ b.mixed = true ∨ ∃ d, b.direction = some d ∧ d ≠ dir := by
  unfold Block.takeRevolution
  cases b.direction with
  | none => simp
  | some d => simp

/-! ## Angle records (R107) -/

/-- The block with one more angle record (R107). -/
def Block.recorded (b : Block) (w : Window) (a : AngleRecord) (values : List Published) : Block :=
  { b with
    n := b.n + 1, filled := if a.filled then b.filled + 1 else b.filled, clipped := b.clipped || w.clippedBy values,
    sums := List.zipWith (fun o row => accumulateOrder w values (phase16 o b.r a.angle16) row) w.orderValues b.sums }

theorem Window.record_of_waiting {w : Window} (h : w.block = none) (set : OrderSet) (fs : Nat) (a : AngleRecord)
    (values : List Published) : w.record set fs a values = w := by
  simp only [Window.record, h]

theorem Window.record_of_block {w : Window} {b : Block} (h : w.block = some b) (set : OrderSet) (fs : Nat)
    (a : AngleRecord) (values : List Published) :
    w.record set fs a values =
      if b.n + 1 < 4194304 then { w with block := some (b.recorded w a values) }
      else closeBlock w set fs true (b.recorded w a values) := by
  simp only [Window.record, h]
  rfl

theorem Window.clippedBy_iff (w : Window) (values : List Published) : w.clippedBy values = true ↔
    ∃ c ∈ w.channels, c.2 = .included ∧ ∃ p ∈ values, p.channel = c.1 ∧ p.clipped = true := by
  simp [Window.clippedBy]

/-- An order's sums take in the value that an INCLUDED channel published, by cosine and sine of the phase (R107). -/
theorem accumulateOrder_getElem? {w : Window} {j c : Nat} {entry : ChannelEntry} {sums : List (Int × Int)}
    {cs : Int × Int} (hc : w.channels[j]? = some (c, entry)) (hcs : sums[j]? = some cs) (values : List Published)
    (phase : Nat) : (accumulateOrder w values phase sums)[j]? = some
      (match publishedBy values c with
       | some p => if entry = .included then
           (cs.1 + p.raw * sinTable ((phase + 16384) % 65536 / 64), cs.2 + p.raw * sinTable (phase / 64)) else cs
       | none => cs) := by
  have hname : w.channels.getD j (0, .excluded) = (c, entry) := by simp [List.getD_eq_getElem?_getD, hc]
  simp only [accumulateOrder]
  rw [mapIncluded_getElem? _ w.channels 0 sums j c entry cs hc hcs, Nat.zero_add, hname]
  cases publishedBy values c with
  | none => exact congrArg some (ite_self cs)
  | some p => rfl

/-! ## Breaks and withdrawals (R109, R110) -/

theorem Window.withdraw_channels (w : Window) (c : Nat) : (w.withdraw c).channels =
    w.channels.map (fun e => if e.1 = c ∧ e.2 = .included then (e.1, ChannelEntry.withdrawn) else e) := by
  unfold Window.withdraw
  dsimp only
  split <;> rfl

theorem Window.withdraw_of_waiting {w : Window} (h : w.block = none) (c : Nat) :
    (w.withdraw c).pairs = w.pairs ∧ (w.withdraw c).block = none := by
  simp only [Window.withdraw, h, and_self]

theorem Window.withdraw_of_block {w : Window} {b : Block} (h : w.block = some b) (c : Nat) :
    (w.withdraw c).pairs = w.pairs.map (mapChannel PairCount.spoiled c w.channels) ∧
      (w.withdraw c).block = some { b with sums := b.sums.map (mapChannel (fun _ => (0, 0)) c w.channels) } := by
  simp only [Window.withdraw, h, and_self]

/-- A list of rows changed in one channel's column, cell by cell. -/
theorem map_mapChannel_getElem? {α : Type} {f : α → α} {c j k c' : Nat} {cs : List (Nat × ChannelEntry)}
    {rows : List (List α)} {row : List α} {x : α} {entry : ChannelEntry} (hrow : rows[k]? = some row)
    (hc : cs[j]? = some (c', entry)) (hx : row[j]? = some x) :
    ∃ row', (rows.map (mapChannel f c cs))[k]? = some row' ∧
      row'[j]? = some (if c' = c ∧ entry = .included then f x else x) :=
  ⟨_, by rw [List.getElem?_map, hrow, Option.map_some], mapChannel_getElem? f c cs row j c' entry x hc hx⟩

/-! ## Marks (R111) -/

/-- The width of a block's speed spread; 0 before any revolution (R111). -/
def Block.width (b : Block) : Nat :=
  match b.spread with
  | some (lo, hi) => hi - lo
  | none => 0

theorem Block.width_le_iff (b : Block) (n : Nat) :
    b.width * 1000 ≤ n ↔ ∀ lo hi, b.spread = some (lo, hi) → (hi - lo) * 1000 ≤ n := by
  unfold Block.width
  cases b.spread with
  | none => simp
  | some p => exact ⟨by rintro h _ _ ⟨⟩; exact h, fun h => h p.1 p.2 rfl⟩

theorem blockMark_eq (steadiness : Nat) (v : Int) (long : Bool) (b : Block) :
    blockMark steadiness v long b =
      if b.clipped then some .clipped
      else if b.n < b.filled * 100 then some .filled
      else if b.n < 64 then some .short
      else if long then some .long
      else if b.mixed || steadiness * v.natAbs < b.width * 1000 then some .unsteady
      else none := rfl

/-- A block is left unmarked exactly when none of R111's five conditions holds. -/
theorem blockMark_eq_none_iff (steadiness : Nat) (v : Int) (long : Bool) (b : Block) :
    blockMark steadiness v long b = none ↔
      b.clipped = false ∧ b.filled * 100 ≤ b.n ∧ 64 ≤ b.n ∧ long = false ∧ b.mixed = false ∧
        ∀ lo hi, b.spread = some (lo, hi) → (hi - lo) * 1000 ≤ steadiness * v.natAbs := by
  rw [← b.width_le_iff, blockMark_eq]
  split_ifs with hclipped hfilled hshort hlong hunsteady
  · simp [hclipped]
  · simp [Nat.not_le.2 hfilled]
  · simp [Nat.not_le.2 hshort]
  · simp [hlong]
  · simp only [Bool.or_eq_true, decide_eq_true_eq] at hunsteady
    refine iff_of_false nofun ?_
    rintro ⟨-, -, -, -, hmixed, hwidth⟩
    exact hunsteady.elim (by simp [hmixed]) (by omega)
  · simp only [Bool.or_eq_true, decide_eq_true_eq, not_or, Bool.not_eq_true] at hclipped hlong hunsteady
    obtain ⟨hmixed, hwidth⟩ := hunsteady
    exact iff_of_true rfl ⟨hclipped, by omega, by omega, hlong, hmixed, by omega⟩

/-! ## Events reach the open window alone (R47) -/

theorem withWindow_of_closed {s : State} (h : s.engine.window = none) (f : Window → OrderSet → Nat → Window) :
    withWindow s f = s := by
  simp only [withWindow, h]

theorem withWindow_of_open {s : State} {w : Window} {set : OrderSet} (h : s.engine.window = some w)
    (hset : s.activeSet w.slot = some set) (f : Window → OrderSet → Nat → Window) :
    withWindow s f =
      s.setEngine { s.engine with window := some (f w set ((s.source.map StreamConfig.fs).getD 0)) } := by
  simp only [withWindow, h, hset]

theorem engineBreak_of_closed {s : State} (h : s.engine.window = none) : engineBreak s = s := by
  simp only [engineBreak, h]

theorem engineBreak_of_open {s : State} {w : Window} (h : s.engine.window = some w) :
    engineBreak s = s.setEngine { s.engine with window := some w.invalidate } := by
  simp only [engineBreak, h]

theorem engineWithdraw_of_closed {s : State} (h : s.engine.window = none) (c : Nat) : engineWithdraw s c = s := by
  simp only [engineWithdraw, h]

theorem engineWithdraw_of_open {s : State} {w : Window} (h : s.engine.window = some w) (c : Nat) :
    engineWithdraw s c = s.setEngine { s.engine with window := some (w.withdraw c) } := by
  simp only [engineWithdraw, h]

/-- Settles O48. -/
theorem blocksGatherRevolutionsAndRecords : Obligations.BlocksGatherRevolutionsAndRecords := by
  refine ⟨fun w set fs e => ?_, fun w set fs a values => ⟨fun h => w.record_of_waiting h set fs a values, fun b h => ?_⟩,
    fun w => ⟨fun h => ?_, fun h => ?_⟩, fun w c => ?_, blockMark_eq_none_iff, fun s e a values c => ?_⟩
  · intro fresh
    refine ⟨fun h => Window.boundary_of_waiting h set fs e, fun b h he => Window.boundary_of_untimed h he set fs,
      fun b v h he => ?_⟩
    intro taken
    have hmixed : (b.takeRevolution v e.direction).mixed = taken.mixed := by
      rw [Bool.eq_iff_iff, Block.takeRevolution_mixed, Bool.or_eq_true, decide_eq_true_iff]
    have htaken : b.takeRevolution v e.direction = taken :=
      calc b.takeRevolution v e.direction
        _ = { taken with mixed := (b.takeRevolution v e.direction).mixed } := by
          simp only [taken, Block.takeRevolution, widen]
          cases b.spread <;> cases b.direction <;> rfl
        _ = taken := by rw [hmixed]
    rw [Window.boundary_of_timed h he, htaken]
    dsimp only
    rw [Window.begin_closeBlock]
    rfl
  · refine ⟨b.recorded w a values, Window.record_of_block h set fs a values, ?_, ?_⟩
    · have hclipped : w.clippedBy values = decide (∃ c ∈ w.channels, c.2 = .included ∧
          ∃ p ∈ values, p.channel = c.1 ∧ p.clipped = true) := by
        rw [Bool.eq_iff_iff, Window.clippedBy_iff, decide_eq_true_iff]
      have hfilled : (if a.filled then b.filled + 1 else b.filled) = b.filled + (if a.filled then 1 else 0) := by
        split <;> rfl
      simp only [Block.recorded, hclipped, hfilled]
    · intro k j o c row entry cs ho hrow hc hcs phase
      have hrow' : (b.recorded w a values).sums[k]? =
          some (accumulateOrder w values (phase16 o b.r a.angle16) row) := by
        simp only [Block.recorded, List.getElem?_zipWith, ho, hrow]
      exact ⟨_, hrow', accumulateOrder_getElem? hc hcs values _⟩
  · simp only [Window.invalidate, h]
  · obtain ⟨b, hb⟩ := Option.ne_none_iff_exists'.1 h
    simp only [Window.invalidate, hb]
  · intro u
    refine ⟨?_, fun j c' entry hc => ?_, fun h => Window.withdraw_of_waiting h c, fun b h => ?_⟩
    · simp only [u, Window.withdraw]
      split <;> rfl
    · rw [Window.withdraw_channels, List.getElem?_map, hc, Option.map_some]
      split <;> rfl
    · obtain ⟨hpairs, hblock⟩ := Window.withdraw_of_block h c
      refine ⟨fun k j c' entry row p hrow hc hp => ?_, _, hblock, rfl, fun k j c' entry row cs hrow hc hcs => ?_⟩
      · rw [hpairs]
        exact map_mapChannel_getElem? hrow hc hp
      · exact map_mapChannel_getElem? hrow hc hcs
  · intro fs changed
    have hfs : (s.source.map StreamConfig.fs).getD 0 = fs := by
      simp only [fs]
      cases s.source <;> rfl
    refine ⟨fun h => ⟨withWindow_of_closed h _, withWindow_of_closed h _, engineBreak_of_closed h,
      engineWithdraw_of_closed h c⟩, fun w h => ⟨engineBreak_of_open h, engineWithdraw_of_open h c, fun set hset => ?_⟩⟩
    rw [engineBoundary, engineRecord, withWindow_of_open h hset, withWindow_of_open h hset, hfs]
    exact ⟨rfl, rfl⟩

end Sys2Proof.Machine
end

section
/-! SWAP_ORDER_SET (R62, R63). -/
namespace Sys2Proof.Machine

theorem swapOrderSet_of_unbound {s : State} (h : s.tables = none) (slot : Nat) :
    swapOrderSet slot s = refuse s .notBound := by
  simp only [swapOrderSet, h]

theorem swapOrderSet_beyond {s : State} {t : Tables} (ht : s.tables = some t) {slot : Nat}
    (hslot : t.orderSets.length ≤ slot) : swapOrderSet slot s = refuse s .badValue := by
  simp only [swapOrderSet, ht, List.getElem?_eq_none hslot]

/-- The change of one slot whose content is known. -/
theorem updateSlot_const {s : State} {t : Tables} {slot : Nat} {o : OrderSlot} (ht : s.tables = some t)
    (ho : t.orderSets[slot]? = some o) (f : OrderSlot → OrderSlot) : updateSlot s slot f =
      s.setTables (some { t with orderSets := modifyAt (fun _ => f o) t.orderSets slot }) := by
  simp only [updateSlot, ht, modifyAt_const ho f]

theorem swapOrderSet_answers {s : State} {t : Tables} {slot : Nat} {o : OrderSlot} (ht : s.tables = some t)
    (ho : t.orderSets[slot]? = some o) : swapOrderSet slot s = firstAnswer s [(o.shadow.isNone, .notFound)]
      (if s.inWindow slot = true then
        s.setTables (some { t with orderSets := modifyAt (fun _ => { o with swapPending := true }) t.orderSets slot })
       else raise (s.setTables (some { t with orderSets := modifyAt (fun _ => o.swapped) t.orderSets slot }))
        .orderSetSwapped none none (.number slot)) := by
  simp only [swapOrderSet, ht, ho, firstAnswer_cons, ne_eq, reduceCtorEq, not_false_eq_true, firstAnswer_nil,
    carryOutSwap, updateSlot_const ht ho, apply_ite accept]

/-- Settles O37. -/
theorem swapWaitsForTheWindow : Obligations.SwapWaitsForTheWindow := by
  refine ⟨fun s q slot h hnone => ?_, fun s q slot t h ht hslot => ?_, fun s q slot t o h ht ho => ?_⟩
  · exact answers_of_effect h rfl rfl (swapOrderSet_of_unbound (s := dequeue s) hnone slot)
  · exact answers_of_effect h rfl rfl (swapOrderSet_beyond (s := dequeue s) ht hslot)
  · exact answersFirst_of_firstAnswer h rfl rfl (swapOrderSet_answers (s := dequeue s) ht ho)

end Sys2Proof.Machine
end

section
/-! The integers of a judged pair: the root and the amplitude (R113), and the limit of a curve (R114). -/
namespace Sys2Proof.Machine

/-! ## The integer root and the amplitude (R113) -/

/-- A search that starts with the root between `acc` and `acc + 2 ^ bits` ends at the root. -/
theorem isqrtFrom_spec {m : Nat} (bits acc : Nat) (hlow : acc * acc ≤ m)
    (hhigh : m < (acc + 2 ^ bits) * (acc + 2 ^ bits)) :
    isqrtFrom m bits acc * isqrtFrom m bits acc ≤ m ∧ m < (isqrtFrom m bits acc + 1) * (isqrtFrom m bits acc + 1) := by
  induction bits generalizing acc with
  | zero => exact ⟨hlow, hhigh⟩
  | succ bits ih =>
    simp only [isqrtFrom]
    split
    · next htrial =>
      have hsum : acc + 2 ^ (bits + 1) = acc + 2 ^ bits + 2 ^ bits := by rw [Nat.pow_succ]; omega
      exact ih (acc + 2 ^ bits) htrial (hsum ▸ hhigh)
    · next htrial => exact ih acc hlow (Nat.not_le.1 htrial)

theorem isqrt_spec (m : Nat) : isqrt m * isqrt m ≤ m ∧ m < (isqrt m + 1) * (isqrt m + 1) := by
  refine isqrtFrom_spec _ 0 (Nat.zero_le m) ?_
  calc m
    _ < 2 ^ (Nat.log2 m + 1) := Nat.lt_log2_self
    _ ≤ 2 ^ ((Nat.log2 m / 2 + 1) + (Nat.log2 m / 2 + 1)) := Nat.pow_le_pow_right (by omega) (by omega)
    _ = (0 + 2 ^ (Nat.log2 m / 2 + 1)) * (0 + 2 ^ (Nat.log2 m / 2 + 1)) := by rw [Nat.zero_add, Nat.pow_add]

theorem amplitude_eq (c s : Int) (n : Nat) :
    amplitude c s n = min 65535 ((isqrt ((c * c + s * s).toNat) + 512 * n) / (1024 * n)) := by
  have hsum : (c * c + s * s).toNat = c.natAbs * c.natAbs + s.natAbs * s.natAbs := by
    rw [← Int.natAbs_mul_self, ← Int.natAbs_mul_self (a := s), ← Int.natCast_add, Int.toNat_natCast]
  rw [hsum, amplitude]

/-! ## The limit of a curve (R114) -/

/-- At the lower of two neighbouring points the limit is that point's own. -/
theorem interpolate_left (p q : CurvePoint) : interpolate p q p.speed = p.limit := by
  simp [interpolate, floorDiv]

/-- Between two neighbouring points the limit keeps between theirs. -/
theorem interpolate_mem {p q : CurvePoint} {v lo hi : Nat} (hp : lo ≤ p.limit ∧ p.limit ≤ hi)
    (hq : lo ≤ q.limit ∧ q.limit ≤ hi) (hpv : p.speed ≤ v) (hvq : v < q.speed) :
    (lo : Int) ≤ interpolate p q v ∧ interpolate p q v ≤ (hi : Int) := by
  have hspan : (0 : Int) < (q.speed : Int) - p.speed := by omega
  have hrise : (0 : Int) ≤ (v : Int) - p.speed := by omega
  have hwithin : (v : Int) - p.speed ≤ (q.speed : Int) - p.speed := by omega
  rw [interpolate, floorDiv, Int.fdiv_eq_ediv_of_nonneg _ hspan.le]
  constructor
  · have hfloor : (lo : Int) - p.limit ≤
        ((q.limit : Int) - p.limit) * ((v : Int) - p.speed) / ((q.speed : Int) - p.speed) := by
      rw [Int.le_ediv_iff_mul_le hspan]
      calc ((lo : Int) - p.limit) * ((q.speed : Int) - p.speed)
        _ ≤ ((lo : Int) - p.limit) * ((v : Int) - p.speed) := mul_le_mul_of_nonpos_left hwithin (by omega)
        _ ≤ ((q.limit : Int) - p.limit) * ((v : Int) - p.speed) := mul_le_mul_of_nonneg_right (by omega) hrise
    omega
  · have hceil : ((q.limit : Int) - p.limit) * ((v : Int) - p.speed) / ((q.speed : Int) - p.speed) ≤
        (hi : Int) - p.limit := by
      refine Int.ediv_le_of_le_mul hspan ?_
      calc ((q.limit : Int) - p.limit) * ((v : Int) - p.speed)
        _ ≤ ((hi : Int) - p.limit) * ((v : Int) - p.speed) := mul_le_mul_of_nonneg_right (by omega) hrise
        _ ≤ ((hi : Int) - p.limit) * ((q.speed : Int) - p.speed) := mul_le_mul_of_nonneg_left hwithin (by omega)
    omega

theorem limitFrom_mem {p : CurvePoint} {rest : List CurvePoint} {v lo hi : Nat} (hpv : p.speed ≤ v)
    (hbounds : ∀ x ∈ p :: rest, lo ≤ x.limit ∧ x.limit ≤ hi) :
    (lo : Int) ≤ limitFrom p rest v ∧ limitFrom p rest v ≤ (hi : Int) := by
  induction rest generalizing p with
  | nil => simpa [limitFrom] using hbounds
  | cons q rest ih =>
    obtain ⟨hp, hrest⟩ := List.forall_mem_cons.1 hbounds
    simp only [limitFrom]
    split
    · next hvq => exact interpolate_mem hp (hrest q List.mem_cons_self) hpv hvq
    · next hvq => exact ih (Nat.not_lt.1 hvq) hrest

theorem limitAt_mem {curve : List CurvePoint} {v lo hi : Nat} (hne : curve ≠ [])
    (hbounds : ∀ x ∈ curve, lo ≤ x.limit ∧ x.limit ≤ hi) :
    (lo : Int) ≤ limitAt curve v ∧ limitAt curve v ≤ (hi : Int) := by
  obtain ⟨p, rest, rfl⟩ := List.exists_cons_of_ne_nil hne
  simp only [limitAt]
  split
  · simpa using hbounds p List.mem_cons_self
  · next hpv => exact limitFrom_mem (Nat.le_of_not_le hpv) hbounds

/-- The points that `v` has passed do not matter. -/
theorem limitFrom_append {x p : CurvePoint} {front back : List CurvePoint} {v : Nat}
    (hinc : (x :: (front ++ p :: back)).Pairwise (fun a b => a.speed < b.speed)) (hpv : p.speed ≤ v) :
    limitFrom x (front ++ p :: back) v = limitFrom p back v := by
  induction front generalizing x with
  | nil => exact if_neg (Nat.not_lt.2 hpv)
  | cons y front ih =>
    have htail := (List.pairwise_cons.1 hinc).2
    have hyp : y.speed < p.speed := (List.pairwise_cons.1 htail).1 p (by simp)
    exact (if_neg (by omega)).trans (ih htail)

theorem limitFrom_left {p : CurvePoint} {back : List CurvePoint}
    (hinc : (p :: back).Pairwise (fun a b => a.speed < b.speed)) : limitFrom p back p.speed = p.limit := by
  cases back with
  | nil => rfl
  | cons q back =>
    have hpq : p.speed < q.speed := (List.pairwise_cons.1 hinc).1 q List.mem_cons_self
    exact (if_pos hpq).trans (interpolate_left p q)

theorem limitAt_append {front back : List CurvePoint} {p : CurvePoint} {v : Nat}
    (hinc : increasing (front ++ p :: back) = true) (hpv : p.speed ≤ v) :
    limitAt (front ++ p :: back) v = limitFrom p back v := by
  rw [increasing_iff] at hinc
  cases front with
  | nil =>
    rw [List.nil_append] at hinc
    simp only [List.nil_append, limitAt]
    split
    · next hvp => rw [Nat.le_antisymm hvp hpv, limitFrom_left hinc]
    · rfl
  | cons x front =>
    have hxp : x.speed < p.speed := (List.pairwise_cons.1 hinc).1 p (by simp)
    exact (if_neg (by omega)).trans (limitFrom_append hinc hpv)

/-- Settles O47. -/
theorem amplitudeAndLimitAreWhatTheyShouldBe : Obligations.AmplitudeAndLimitAreWhatTheyShouldBe := by
  refine ⟨isqrt_spec, amplitude_eq, fun curve v lo hi hne _ => limitAt_mem hne, ?_, fun p rest v h => if_pos h, ?_⟩
  · intro front back p q v hinc hpv hvq
    rw [limitAt_append hinc hpv]
    exact if_pos hvq
  · intro front p v hinc hpv
    exact limitAt_append hinc hpv

end Sys2Proof.Machine
end

section
/-! A judged block's counts (R110 to R112, R115), the close of a window (R116, R63) and the 48 findings that a record
keeps (R117). -/
namespace Sys2Proof.Machine

/-! ## A block's counts (R111, R112, R115) -/

theorem Window.spoilAll_getElem? {w : Window} {k j c : Nat} {row : List PairCount} {e : ChannelEntry} {p : PairCount}
    (hrow : w.pairs[k]? = some row) (hc : w.channels[j]? = some (c, e)) (hp : row[j]? = some p) :
    ∃ row', w.spoilAll.pairs[k]? = some row' ∧ row'[j]? = some (if e = .included then p.spoiled else p) :=
  ⟨_, by rw [Window.spoilAll, List.getElem?_map, hrow, Option.map_some], mapIncluded_getElem? _ _ _ _ _ _ _ _ hc hp⟩

theorem closeBlock_of_marked {w : Window} {set : OrderSet} {fs : Nat} {long : Bool} {b : Block}
    (h : blockMark set.steadiness (blockSpeed fs set.revs b) long b ≠ none) :
    closeBlock w set fs long b = { w.spoilAll with block := none } := by
  obtain ⟨mark, hmark⟩ := Option.ne_none_iff_exists'.1 h
  simp only [closeBlock, hmark]

theorem closeBlock_of_unmarked {w : Window} {set : OrderSet} {fs : Nat} {long : Bool} {b : Block}
    (h : blockMark set.steadiness (blockSpeed fs set.revs b) long b = none) :
    closeBlock w set fs long b = { w with
      validBlocks := sat16 w.validBlocks, block := none,
      pairs := judgeOrders w set b (blockSpeed fs set.revs b) w.orderValues set.orders b.sums w.pairs } := by
  simp only [closeBlock, h]

/-- A judged pair counts the block, and keeps it as its worst where its margin is smaller than the one kept (R115). -/
theorem PairCount.judged_eq (p : PairCount) (a l : Nat) (v : Int) :
    let this : Worst := { a := a, l := l, v := v, margin := (l : Int) - a }
    p.judged a l v = { p with
      valid := sat16 p.valid, fail := if l < a then sat16 p.fail else p.fail,
      worst := some (match p.worst with
        | some old => if (l : Int) - a < old.margin then this else old
        | none => this) } := by
  intro this
  unfold PairCount.judged
  cases hworst : p.worst with
  | none => rfl
  | some old =>
    dsimp only
    split
    · rfl
    · rw [← hworst]

/-- One pair of an unmarked block: spoiled where its order is ABOVE_BAND, judged otherwise (R112, R115). -/
theorem judgeOrder_getElem? {w : Window} {set : OrderSet} {b : Block} {v : Int} {order : Nat} {entry : OrderEntry}
    {sums : List (Int × Int)} {row : List PairCount} {j c : Nat} {e : ChannelEntry} {cs : Int × Int} {p : PairCount}
    (hc : w.channels[j]? = some (c, e)) (hcs : sums[j]? = some cs) (hp : row[j]? = some p) :
    (judgeOrder w set b v order entry sums row)[j]? = some
      (if e ≠ .included then p
       else if b.n * 65536 ≤ 2 * order * set.revs then p.spoiled
       else p.judged (amplitude cs.1 cs.2 b.n) (limitAt entry.curve v.natAbs).toNat v) := by
  have hsums : sums.getD j (0, 0) = cs := by simp [List.getD_eq_getElem?_getD, hcs]
  simp only [judgeOrder, aboveBand, decide_eq_true_eq]
  split
  · rw [mapIncluded_getElem? _ _ _ _ _ _ _ _ hc hp, ite_not]
  · rw [mapIncluded_getElem? _ _ _ _ _ _ _ _ hc hp, Nat.zero_add, hsums, ite_not]

/-! ## The findings of a window (R116) -/

/-- The finding that a window's close forms of one pair (R116). -/
def pairFinding (set : OrderSet) (segment order : Nat) (pair : (Nat × ChannelEntry) × PairCount) : Finding :=
  { segment := segment, order := order, channel := pair.1.1, valid := pair.2.valid, fail := pair.2.fail,
    invalid := pair.2.invalid, worst := pair.2.worst, verdict := findingVerdict set pair.1.2 pair.2 }

theorem findingsOfOrder_eq (set : OrderSet) (segment order : Nat) (cs : List (Nat × ChannelEntry))
    (ps : List PairCount) :
    findingsOfOrder set segment order cs ps = (cs.zip ps).map (pairFinding set segment order) := by
  induction cs generalizing ps with
  | nil => rfl
  | cons c cs ih =>
    cases ps with
    | nil => rfl
    | cons p ps => exact congrArg _ (ih ps)

theorem findingsFrom_eq (set : OrderSet) (w : Window) (k : Nat) (rows : List (List PairCount)) :
    findingsFrom set w k rows =
      (rows.zipIdx k).flatMap (fun row => (w.channels.zip row.1).map (pairFinding set w.segment row.2)) := by
  induction rows generalizing k with
  | nil => rfl
  | cons row rows ih => simp only [findingsFrom, findingsOfOrder_eq, List.zipIdx_cons, List.flatMap_cons, ih]

theorem FindingVerdict.noResult_eq (x : FindingVerdict) :
    x.noResult = (decide (x = .fewBlocks) || decide (x = .unavailable)) := by
  cases x <;> rfl

/-! ## The close of a window (R116, R63) -/

/-- The engine CLOSED, with its run record, and the record at BAY_A after a window's findings (R116). -/
def State.findingsTaken (s : State) (findings : List Finding) : State :=
  updateUnit (s.setEngine
    { window := none, failSeen := s.engine.failSeen || findings.any (fun f => f.verdict = .fail),
      noResultSeen := s.engine.noResultSeen || findings.any (fun f => f.verdict.noResult),
      unavailableSeen := s.engine.unavailableSeen }) .bayA (fun u => findings.foldl offerFinding u)

theorem findingsTaken_engine (s : State) (findings : List Finding) : (s.findingsTaken findings).engine =
    { window := none, failSeen := s.engine.failSeen || findings.any (fun f => f.verdict = .fail),
      noResultSeen := s.engine.noResultSeen ||
        findings.any (fun f => f.verdict = .fewBlocks || f.verdict = .unavailable),
      unavailableSeen := s.engine.unavailableSeen } := by
  simp only [State.findingsTaken, updateUnit, State.setUnits_engine, State.setEngine_engine,
    FindingVerdict.noResult_eq]

theorem findingsTaken_orderSlot (s : State) (findings : List Finding) (n : Nat) :
    (s.findingsTaken findings).orderSlot n = s.orderSlot n := rfl

theorem offerFindings_keeps (findings : List Finding) (u : UnitRecord) :
    (findings.foldl offerFinding u).serial = u.serial ∧ (findings.foldl offerFinding u).position = u.position := by
  have hidentity := offerFindings_identity findings u
  simp only [UnitRecord.identity, Prod.mk.injEq] at hidentity
  obtain ⟨hserial, -, hposition, -⟩ := hidentity
  exact ⟨hserial, hposition⟩

/-- A write that keeps serials and positions keeps the serial at every position. -/
theorem updateUnit_serialAt (s : State) (p q : Position) {f : UnitRecord → UnitRecord}
    (h : ∀ u, (f u).serial = u.serial ∧ (f u).position = u.position) : (updateUnit s p f).serialAt q = s.serialAt q := by
  have hwritten (u : UnitRecord) : (if u.position = p then f u else u).serial = u.serial ∧
      (if u.position = p then f u else u).position = u.position := by
    split
    · exact h u
    · exact ⟨rfl, rfl⟩
  obtain ⟨hserial, hposition⟩ := forall_and.1 hwritten
  simp only [State.serialAt, State.unitAt, updateUnit, State.setUnits_units, List.find?_map, Option.map_map,
    Function.comp_def, hserial, hposition]

theorem findingsTaken_serialAt (s : State) (findings : List Finding) (p : Position) :
    (s.findingsTaken findings).serialAt p = s.serialAt p :=
  updateUnit_serialAt _ _ _ (offerFindings_keeps findings)

theorem closeWindow_of_open {s : State} {w : Window} {set : OrderSet} {o : OrderSlot} (h : s.engine.window = some w)
    (hset : s.activeSet w.slot = some set) (ho : s.orderSlot w.slot = some o) :
    closeWindow s = (w.validBlocks,
      let t := s.findingsTaken (findingsFrom set w 0 w.pairs)
      if o.swapPending = true then carryOutSwap t w.slot (some .a) (s.serialAt .bayA) else t) := by
  simp only [closeWindow, h, hset, ho, ← findingsTaken_serialAt s (findingsFrom set w 0 w.pairs)]
  rfl

/-- A swap leaves the engine and the Unit List alone, and raises its notice as it would without the copy (R63). -/
theorem carryOutSwap_frame (s : State) (n : Nat) (bay : Option Bay) (serial : Option Serial) :
    (carryOutSwap s n bay serial).engine = s.engine ∧ (carryOutSwap s n bay serial).units = s.units ∧
      (carryOutSwap s n bay serial).notices = (raise s .orderSetSwapped bay serial (.number n)).notices := by
  simp only [carryOutSwap, updateSlot]
  split <;> exact ⟨rfl, rfl, rfl⟩

theorem carryOutSwap_orderSlot (s : State) (n m : Nat) (bay : Option Bay) (serial : Option Serial) :
    (carryOutSwap s n bay serial).orderSlot m = (s.orderSlot m).map (fun o => if n = m then o.swapped else o) :=
  updateSlot_orderSlot s n m OrderSlot.swapped

/-! ## The findings that a record keeps (R117) -/

/-- Where a finding stands for R117; one without a margin stands above every margin. -/
def Finding.standing (f : Finding) : WithTop Int :=
  match f.worst with
  | some w => (w.margin : WithTop Int)
  | none => ⊤

theorem Finding.standing_lt_iff (x y : Finding) : x.standing < y.standing ↔
    match x.worst, y.worst with
    | some a, some b => a.margin < b.margin
    | some _, none => True
    | none, _ => False := by
  unfold Finding.standing
  cases x.worst with
  | none => exact iff_of_false not_top_lt id
  | some a =>
    cases y.worst with
    | none => exact iff_of_true (WithTop.coe_lt_top _) trivial
    | some b => exact WithTop.coe_lt_coe

/-- The order of R117 in the model is the order of the standings. -/
theorem standsLower_iff (f g : Finding) : standsLower f.margin g.margin = true ↔ f.standing < g.standing := by
  rw [Finding.standing_lt_iff, Finding.margin, Finding.margin]
  cases f.worst with
  | none => exact iff_of_false nofun id
  | some a =>
    cases g.worst with
    | none => exact iff_of_true rfl trivial
    | some b => exact decide_eq_true_iff

theorem highest_cons {rest : List Finding} {g : Finding} (h : highest rest = some g) (f : Finding) :
    highest (f :: rest) = if f.standing < g.standing then some g else some f := by
  simp only [highest, h, standsLower_iff]

/-- The finding of highest standing parts its list: all before it stand lower, none behind it stands higher. -/
theorem highest_spec {fs : List Finding} (h : fs ≠ []) : ∃ front g back, highest fs = some g ∧
    fs = front ++ g :: back ∧ (∀ x ∈ front, x.standing < g.standing) ∧ ∀ x ∈ back, x.standing ≤ g.standing := by
  induction fs with
  | nil => exact absurd rfl h
  | cons f rest ih =>
    by_cases hrest : rest = []
    · subst hrest
      exact ⟨[], f, [], rfl, rfl, nofun, nofun⟩
    · obtain ⟨front, g, back, hg, hsplit, hfront, hback⟩ := ih hrest
      rw [highest_cons hg f]
      by_cases hlower : f.standing < g.standing
      · exact ⟨f :: front, g, back, if_pos hlower, by rw [hsplit, List.cons_append],
          List.forall_mem_cons.2 ⟨hlower, hfront⟩, hback⟩
      · refine ⟨[], f, rest, if_neg hlower, rfl, nofun, ?_⟩
        have hgf : g.standing ≤ f.standing := not_lt.1 hlower
        rw [hsplit, List.forall_mem_append, List.forall_mem_cons]
        exact ⟨fun x hx => (hfront x hx).le.trans hgf, hgf, fun x hx => (hback x hx).trans hgf⟩

theorem removeFirst_append {α : Type} [DecidableEq α] {front back : List α} {x : α} (h : ∀ y ∈ front, y ≠ x) :
    removeFirst x (front ++ x :: back) = front ++ back := by
  induction front with
  | nil => exact if_pos rfl
  | cons y front ih =>
    obtain ⟨hy, hfront⟩ := List.forall_mem_cons.1 h
    rw [List.cons_append, removeFirst, if_neg hy, ih hfront, List.cons_append]

theorem offerFinding_of_room {u : UnitRecord} (h : u.findings.length < 48) (f : Finding) :
    offerFinding u f = { u with findings := u.findings ++ [f] } := if_pos h

/-- A full list gives up its highest finding for one that stands lower, and drops any other. -/
theorem offerFinding_of_full {u : UnitRecord} (h : 48 ≤ u.findings.length) (f : Finding) :
    ∃ front g back, u.findings = front ++ g :: back ∧ (∀ x ∈ front, x.standing < g.standing) ∧
      (∀ x ∈ back, ¬g.standing < x.standing) ∧
      (f.standing < g.standing → offerFinding u f = { u with findings := front ++ back ++ [f], truncated := true }) ∧
      (¬f.standing < g.standing → offerFinding u f = { u with truncated := true }) := by
  obtain ⟨front, g, back, hg, hsplit, hfront, hback⟩ :=
    highest_spec (fs := u.findings) (List.ne_nil_of_length_pos (by omega))
  have hremove : removeFirst g u.findings = front ++ back := by
    rw [hsplit]
    exact removeFirst_append fun y hy heq => lt_irrefl _ (heq ▸ hfront y hy)
  have hoffer : offerFinding u f = if f.standing < g.standing then
      { u with findings := front ++ back ++ [f], truncated := true } else { u with truncated := true } := by
    simp only [offerFinding, if_neg (Nat.not_lt.2 h), hg, standsLower_iff, hremove]
  exact ⟨front, g, back, hsplit, hfront, fun x hx => not_lt.2 (hback x hx), fun hlt => hoffer.trans (if_pos hlt),
    fun hlt => hoffer.trans (if_neg hlt)⟩

/-- Settles O49. -/
theorem windowsCloseIntoFindings : Obligations.WindowsCloseIntoFindings := by
  refine ⟨fun _ _ _ => rfl, fun w set fs long b => ?_,
    fun w k j row c e p hrow hc hp => Window.spoilAll_getElem? hrow hc hp, fun s w set hw hset => ?_, fun u f => ?_⟩
  · intro v u
    refine ⟨closeBlock_of_marked, fun hmark => ?_⟩
    have hu : u = _ := closeBlock_of_unmarked hmark
    refine ⟨by rw [hu], fun k j c order entry e sums row cs p horder hentry hsums hrow hc hcs hp => ?_⟩
    intro a l this judged
    have hjudged : judged = p.judged a l v := (p.judged_eq a l v).symm
    refine ⟨judgeOrder w set b v order entry sums row, ?_, ?_⟩
    · rw [hu]
      exact judgeOrders_getElem? w set b v _ _ _ _ k order entry sums row horder hentry hsums hrow
    · rw [hjudged]
      exact judgeOrder_getElem? hc hcs hp
  · intro verdict findings t
    obtain ⟨o, ho, -⟩ := Option.bind_eq_some_iff.1 hset
    have hfindings : findingsFrom set w 0 w.pairs = findings := findingsFrom_eq set w 0 w.pairs
    have hclose := hfindings ▸ closeWindow_of_open hw hset ho
    have ht : t = if o.swapPending = true
        then carryOutSwap (s.findingsTaken findings) w.slot (some .a) (s.serialAt .bayA)
        else s.findingsTaken findings := congrArg Prod.snd hclose
    have hkept : t.engine = (s.findingsTaken findings).engine ∧ t.units = (s.findingsTaken findings).units := by
      rw [ht]
      split
      · obtain ⟨hengine, hunits, -⟩ := carryOutSwap_frame (s.findingsTaken findings) w.slot (some .a) (s.serialAt .bayA)
        exact ⟨hengine, hunits⟩
      · exact ⟨rfl, rfl⟩
    refine ⟨congrArg Prod.fst hclose, closeWindow_jobStep s, hkept.1.trans (findingsTaken_engine s findings), hkept.2,
      fun o' ho' hpending => ?_, fun o' ho' hpending => ?_⟩
    · obtain rfl : o = o' := Option.some.inj (ho.symm.trans ho')
      rw [ht, if_pos hpending]
      refine ⟨?_, fun n hn => ?_, (carryOutSwap_frame (s.findingsTaken findings) _ _ _).2.2⟩
      · rw [carryOutSwap_orderSlot, findingsTaken_orderSlot, ho, Option.map_some, if_pos rfl, OrderSlot.swapped]
      · simp only [carryOutSwap_orderSlot, findingsTaken_orderSlot, if_neg hn.symm, Option.map_id']
    · obtain rfl : o = o' := Option.some.inj (ho.symm.trans ho')
      rw [ht, if_neg (by simp [hpending])]
      exact ⟨rfl, rfl⟩
  · intro lower
    have hlower (x y : Finding) : lower x y ↔ x.standing < y.standing := (x.standing_lt_iff y).symm
    refine ⟨fun h => offerFinding_of_room h f, fun h => ?_⟩
    simp only [hlower]
    exact offerFinding_of_full h f

end Sys2Proof.Machine
end

section
/-! The requests on the Unit List: ADMIT (R70, R71), ADVANCE (R72, R73), RELEASE and WITHDRAW (R74 to R77, R141, R149). -/
namespace Sys2Proof.Machine

/-! ## What the list and the tables are asked -/

theorem State.any_position (s : State) (p : Position) :
    s.units.any (fun u => u.position = p) = (s.unitAt p).isSome :=
  List.isSome_find?.symm

theorem State.countAt_eq_zero (s : State) (p : Position) :
    s.countAt p = 0 ↔ s.units.any (fun u => u.position = p) = false := by
  simp [State.countAt]

theorem findVariant_eq_some {id i n : Nat} {slots : List VariantSlot} {v : Variant} {stats : Stats}
    (h : findVariant id i slots = some (n, v, stats)) :
    v.id = id ∧ ∃ k, n = i + k ∧ slots[k]? = some { record := some v, stats := stats } := by
  induction slots generalizing i with
  | nil => cases h
  | cons slot rest ih =>
    have later (h : findVariant id (i + 1) rest = some (n, v, stats)) :
        v.id = id ∧ ∃ k, n = i + k ∧ (slot :: rest)[k]? = some { record := some v, stats := stats } := by
      obtain ⟨hid, k, hn, hk⟩ := ih h
      exact ⟨hid, k + 1, by omega, hk⟩
    obtain ⟨record, content⟩ := slot
    cases record with
    | none => exact later h
    | some w =>
      simp only [findVariant] at h
      split at h
      · next hw => cases h; exact ⟨hw, 0, rfl, rfl⟩
      · exact later h

/-- Lookup in the tables (R57) finds a loaded slot of that variant id. -/
theorem State.lookup_eq_some {s : State} {id n : Nat} {v : Variant} {stats : Stats}
    (h : s.lookup id = some (n, v, stats)) :
    v.id = id ∧ ∃ t, s.tables = some t ∧ t.variants[n]? = some { record := some v, stats := stats } := by
  unfold State.lookup at h
  split at h
  · cases h
  · next t ht =>
    obtain ⟨hid, k, hn, hk⟩ := findVariant_eq_some h
    rw [Nat.zero_add] at hn
    exact ⟨hid, t, ht, hn ▸ hk⟩

/-! ## ADMIT (R70, R71) -/

/-- R70's serial rule: every character printable, and not all of them spaces. -/
theorem not_serialAllowed_eq (serial : Serial) : (!serialAllowed serial) =
    (serial.any (fun b => b.toNat < 0x20 || 0x7E < b.toNat) || serial.all (fun b => b = 0x20)) := by
  have hprint : (!serial.all fun b => decide (0x20 ≤ b.toNat ∧ b.toNat ≤ 0x7E)) =
      serial.any (fun b => b.toNat < 0x20 || 0x7E < b.toNat) := by
    rw [List.not_all_eq_any_not]
    congr 1; funext b
    rw [← decide_not, ← Bool.decide_or]
    exact decide_eq_decide.2 (by omega)
  have hspace : (!serial.any fun b => b != 0x20) = serial.all (fun b => b = 0x20) := by
    rw [List.not_any_eq_all_not]
    congr 1; funext b
    rw [bne, Bool.not_not, beq_eq_decide]
  rw [serialAllowed, Bool.not_and, hprint, hspace]

theorem admitUnit_answers (s : State) (serial : Serial) (id : Nat) : admitUnit serial id s = firstAnswer s
    [(s.tables.isNone, .notBound),
     (serial.any (fun b => b.toNat < 0x20 || 0x7E < b.toNat) || serial.all (fun b => b = 0x20), .badValue),
     (s.units.any (fun u => u.position = .bayA), .bayOccupied),
     (decide (6 ≤ s.units.length), .lineFull),
     ((s.lookup id).isNone, .noVariant),
     ((match s.lookup id with | some x => x.2.2.held | none => false), .variantHeld),
     (s.units.any (fun u => u.serial = serial), .duplicateSerial)]
    (s.setUnits (s.units ++ [UnitRecord.admitted serial id s.timeBase])) := by
  simp only [admitUnit, not_serialAllowed_eq, s.any_position, firstAnswer_cons, ne_eq, reduceCtorEq, not_false_eq_true,
    firstAnswer_nil, decide_eq_true_eq]
  cases s.lookup id <;> rfl

/-- Settles O38: ADMIT's effect as its list of reasons, and what a lookup that succeeds has found. -/
theorem admitChecksAndAppends : Obligations.AdmitChecksAndAppends :=
  ⟨fun s _ serial id h => answersFirst_of_firstAnswer h rfl rfl (admitUnit_answers (dequeue s) serial id),
    fun _ _ _ _ _ h => State.lookup_eq_some h⟩

/-! ## ADVANCE (R72, R73) -/

theorem advanceA_answers (s : State) : advanceA s = firstAnswer s
    [(!s.units.any (fun u => u.position = .bayA), .bayEmpty), (s.runIn.run.isSome, .active)]
    (s.setUnits (s.units.map (fun u => if u.position = .bayA then { u with position := .transfer } else u))) := by
  simp only [advanceA, s.any_position, Option.not_isSome, firstAnswer_cons, ne_eq, reduceCtorEq, not_false_eq_true,
    firstAnswer_nil, updateUnit]

theorem advanceB_answers (s : State) : advanceB s = firstAnswer s
    [(!s.units.any (fun u => u.position = .transfer), .bayEmpty),
     ((match s.leak.run with | some r => decide (r.phase = .faulted) | none => false), .active),
     (s.units.any (fun u => u.position = .bayB), .bayOccupied)]
    (s.setUnits (moveFirst s.units)) := by
  simp only [advanceB, s.countAt_eq_zero, Bool.not_eq_true', s.any_position .bayB, firstAnswer_cons, ne_eq, reduceCtorEq,
    not_false_eq_true, firstAnswer_nil]
  rfl

/-- The oldest record at TRANSFER moves, in its place of the list (R73). -/
theorem moveFirst_append {front back : List UnitRecord} {u : UnitRecord} (h : ∀ x ∈ front, x.position ≠ .transfer)
    (hu : u.position = .transfer) : moveFirst (front ++ u :: back) = front ++ { u with position := .bayB } :: back := by
  induction front with
  | nil => exact if_pos hu
  | cons x front ih =>
    obtain ⟨hx, hfront⟩ := List.forall_mem_cons.1 h
    simp only [List.cons_append, moveFirst, if_neg hx, ih hfront]

/-- Settles O39: both effects as their lists of reasons, and the place of the record that moves. -/
theorem advanceMovesOneRecord : Obligations.AdvanceMovesOneRecord :=
  ⟨fun s _ h => answersFirst_of_firstAnswer h rfl rfl (advanceA_answers (dequeue s)),
    fun s _ h => answersFirst_of_firstAnswer h rfl rfl (advanceB_answers (dequeue s)),
    fun _ _ _ h hu => moveFirst_append h hu⟩

/-! ## The required checks after the statistics (R143, R149)

RELEASE forms its report after the statistics are updated, with the required checks read before: both are the same, since
no change of statistics changes the variant record that lookup finds. -/

theorem findVariant_modifyAt_stats (id i n : Nat) (slots : List VariantSlot) (stats : Stats) :
    (findVariant id i (modifyAt (fun x => { x with stats := stats }) slots n)).map (fun x => x.2.1) =
      (findVariant id i slots).map (fun x => x.2.1) := by
  induction slots generalizing i n with
  | nil => rfl
  | cons slot rest ih =>
    obtain ⟨record, content⟩ := slot
    cases n with
    | zero =>
      cases record with
      | none => rfl
      | some v => simp only [modifyAt, findVariant]; split <;> rfl
    | succ n =>
      cases record with
      | none => exact ih (i + 1) n
      | some v =>
        simp only [modifyAt, findVariant]
        split
        · rfl
        · exact ih (i + 1) n

theorem State.requiredOf_eq (s : State) (u : UnitRecord) :
    s.requiredOf u = ((s.lookup u.variantId).map (fun x => x.2.1)).elim Checks.empty Variant.required := by
  unfold State.requiredOf
  cases s.lookup u.variantId <;> rfl

theorem setStats_requiredOf (s : State) (slot : Nat) (stats : Stats) (u : UnitRecord) :
    (setStats s slot stats).requiredOf u = s.requiredOf u := by
  unfold setStats
  split
  · rfl
  · next t ht =>
    simp only [State.requiredOf_eq, State.lookup, State.setTables_tables, ht, findVariant_modifyAt_stats]

theorem releaseStats_requiredOf (s : State) (u w : UnitRecord) (v : Verdict) :
    (releaseStats s u v).requiredOf w = s.requiredOf w := by
  unfold releaseStats
  split
  · rfl
  · dsimp only
    split <;> exact setStats_requiredOf s _ _ w

/-! ## RELEASE and WITHDRAW (R74 to R77, R141, R149) -/

/-- The state in which a record is closed: its report in the Report Queue, the record out of the list, UNIT_CLOSED raised
(R75, R77, R149). -/
def State.closed (s : State) (u : UnitRecord) (v : Verdict) (basis : Checks) (bay : Option Bay) : State :=
  removeUnit (formReport s u v basis (s.requiredOf u)) u bay v

theorem release_answers {s : State} {u : UnitRecord} (hu : s.unitAt .bayB = some u) :
    let verdict := verdictOf u (s.requiredOf u)
    release s = firstAnswer s
      [(s.leak.run.isSome, .active), (decide (4 ≤ s.reports.reports.length), .reportQueueFull)]
      ((releaseStats s u verdict.1).closed u verdict.1 verdict.2 (some .b)) := by
  simp only [release, hu, firstAnswer_cons, ne_eq, reduceCtorEq, not_false_eq_true, firstAnswer_nil, decide_eq_true_eq,
    State.closed, releaseStats_requiredOf]

theorem withdraw_answers {s : State} {serial : Serial} {u : UnitRecord}
    (hu : s.units.find? (fun x => x.serial = serial) = some u) : withdraw serial s = firstAnswer s
      [(s.jobAt u.position, .active), (decide (4 ≤ s.reports.reports.length), .reportQueueFull)]
      (s.closed u .withdrawn Checks.empty u.position.bay) := by
  simp only [withdraw, hu, firstAnswer_cons, ne_eq, reduceCtorEq, not_false_eq_true, firstAnswer_nil, decide_eq_true_eq,
    State.closed]

theorem release_of_empty {s : State} (h : s.unitAt .bayB = none) : release s = refuse s .bayEmpty := by
  simp only [release, h]

theorem withdraw_of_absent {s : State} {serial : Serial} (h : ∀ u ∈ s.units, u.serial ≠ serial) :
    withdraw serial s = refuse s .notFound := by
  have hnone : s.units.find? (fun u => u.serial = serial) = none := by simpa using h
  simp only [withdraw, hnone]

/-- Settles O40: both effects as their lists of reasons; the statistics leave the required checks as they were. -/
theorem closingAUnitReportsIt : Obligations.ClosingAUnitReportsIt := by
  unfold Obligations.ClosingAUnitReportsIt
  intro reported
  have hreported (s : State) (u : UnitRecord) (v : Verdict) (basis : Checks) (bay : Option Bay) :
      reported s u v basis bay = s.closed u v basis bay := by
    simp only [reported, State.closed, State.requiredOf]
    cases s.lookup u.variantId <;> rfl
  refine ⟨fun s q h hnone => ?_, fun s q u h hu => ?_, fun s q serial h habsent => ?_, fun s q serial u h hu => ?_⟩
  · exact answers_of_effect h rfl rfl (release_of_empty (s := dequeue s) hnone)
  · intro required verdict
    have hrequired : required = s.requiredOf u := by
      simp only [required, State.requiredOf]
      cases s.lookup u.variantId <;> rfl
    rw [hreported]
    simp only [verdict, hrequired]
    exact answersFirst_of_firstAnswer h rfl rfl (release_answers (s := dequeue s) hu)
  · exact answers_of_effect h rfl rfl (withdraw_of_absent (s := dequeue s) habsent)
  · rw [hreported]
    exact answersFirst_of_firstAnswer h rfl rfl (withdraw_answers (s := dequeue s) hu)

end Sys2Proof.Machine
end

section
/-! What the Run-in Sequencer's shared operations do, said once: a drive command issued (R88), a timer's condition
(R85, R87, R99) and an edge of the guard line (R96). -/
namespace Sys2Proof.Machine

/-! ## Drive commands (R88, R169) -/

theorem issueDrive_issued {s : State} {st : Stand} (hst : s.stand = some st) (run : Bool) (speed : Int) (ramp : Nat)
    (torque : Int) : driveIssued s (issueDrive s run speed ramp torque) st (nextDrive s run speed ramp torque) := by
  unfold driveIssued
  split
  · next hw =>
    rw [issueDrive_of_held (Option.isSome_iff_ne_none.1 hw)]
    exact ⟨rfl, rfl, rfl, rfl⟩
  · next hw =>
    rw [issueDrive_of_free (by simpa using hw), State.driveSlotWith_of_stand hst]
    exact ⟨rfl, rfl, rfl, rfl⟩

/-- A command built to stop has no target speed. -/
@[simp] theorem nextDrive_stop (s : State) (run : Bool) (ramp : Nat) (torque : Int) :
    (nextDrive s run 0 ramp torque).speed = 0 := by simp [nextDrive]

@[simp] theorem issueDrive_run (s : State) (run : Bool) (speed : Int) (ramp : Nat) (torque : Int) :
    (issueDrive s run speed ramp torque).runIn.run = s.runIn.run := by
  unfold issueDrive issueDriveNow placeDrive; dsimp only; repeat' split
  all_goals rfl

@[simp] theorem issueDrive_guardAsserted (s : State) (run : Bool) (speed : Int) (ramp : Nat) (torque : Int) :
    (issueDrive s run speed ramp torque).runIn.guardAsserted = s.runIn.guardAsserted := by
  unfold issueDrive issueDriveNow placeDrive; dsimp only; repeat' split
  all_goals rfl

/-! ## The timers -/

theorem spinDue_of_run {s : State} {r : SpinRun} (h : s.runIn.run = some r) (phase : SpinPhase)
    (limit : SpinRun → Option Nat) :
    s.spinDue phase limit = true ↔
      r.phase = phase ∧ ∃ n, limit r = some n ∧ n ≤ elapsed s.timeBase r.phaseStart := by
  simp only [State.spinDue, h]
  cases limit r <;> simp

theorem spinDue_of_idle {s : State} (h : s.runIn.run = none) (phase : SpinPhase) (limit : SpinRun → Option Nat) :
    s.spinDue phase limit = false := by simp only [State.spinDue, h]

/-- A timer that is due finds its phase. -/
theorem run_of_spinDue {s : State} {phase : SpinPhase} {limit : SpinRun → Option Nat}
    (h : s.spinDue phase limit = true) : ∃ r, s.runIn.run = some r ∧ r.phase = phase := by
  cases hr : s.runIn.run with
  | none => rw [spinDue_of_idle hr] at h; cases h
  | some r => exact ⟨r, rfl, ((spinDue_of_run hr phase limit).1 h).1⟩

/-! ## The guard line (R96) -/

/-- The state in which an edge of the guard line is raised. -/
def guardRaised (s : State) (asserted : Bool) : State :=
  raise (s.setRunIn { s.runIn with guardAsserted := asserted }) .guard (some .a) (s.serialAt .bayA)
    (.edge asserted s.timeBase)

theorem guardEdge_released (s : State) : guardEdge s false = guardRaised s false := rfl

/-- The state in which an assertion of the guard line takes its outcome: raised, and timed outside IDLE. -/
def guardTimed (s : State) : State := writeGuardTime (guardRaised s true)

theorem guardEdge_asserted (s : State) : guardEdge s true = takeOutcome (guardTimed s) (.aborted .guard) := rfl

/-- The assertion itself changes the records, the guard state and the notices alone. -/
theorem guardTimed_eq (s : State) : guardTimed s = (guardRaised s true).setUnits (guardTimed s).units := by
  unfold guardTimed writeGuardTime; split <;> rfl

end Sys2Proof.Machine
end

section
/-! What `State.DriveSound` speaks of, and the operations that leave it alone: one lemma per operation, beside its
`JobStep` of Laws/Jobs.lean. -/
namespace Sys2Proof.Machine

/-- What `State.DriveSound` speaks of: whether a run-in is supervised (absent in IDLE), the guard state, the newest
drive command and the one waiting in the slot, whether a station reset is in progress, and whether a stand record is
loaded. -/
structure DriveView where
  supervised : Option Bool
  guard : Bool
  last : Option DriveCommand
  slot : Option (Nat × DriveCommand)
  resetting : Bool
  stand : Bool

def State.drive (s : State) : DriveView :=
  { supervised := s.runIn.run.map (fun r => r.phase.supervised), guard := s.runIn.guardAsserted,
    last := s.runIn.lastCommand, slot := s.arbiter.driveSlot, resetting := s.requests.resetWait.isSome,
    stand := s.stand.isSome }

/-- An operation of the jobs that leaves the Run-in Sequencer and the drive slot alone. -/
theorem JobStep.drive {s t : State} (h : JobStep s t) (hrun : t.runIn = s.runIn)
    (hslot : t.arbiter.driveSlot = s.arbiter.driveSlot) : t.drive = s.drive := by
  simp only [State.drive, hrun, hslot, h.requests, h.stand]

/-! ## The updates -/

@[simp] theorem State.setPins_drive (s : State) (x : Pins) : (s.setPins x).drive = s.drive := rfl
@[simp] theorem State.setTimeBase_drive (s : State) (x : Time) : (s.setTimeBase x).drive = s.drive := rfl
@[simp] theorem State.setRing_drive (s : State) (x : Ring) : (s.setRing x).drive = s.drive := rfl
@[simp] theorem State.setAngle_drive (s : State) (x : Angle) : (s.setAngle x).drive = s.drive := rfl
@[simp] theorem State.setTables_drive (s : State) (x : Option Tables) : (s.setTables x).drive = s.drive := rfl
@[simp] theorem State.setUnits_drive (s : State) (x : List UnitRecord) : (s.setUnits x).drive = s.drive := rfl
@[simp] theorem State.setEngine_drive (s : State) (x : Engine) : (s.setEngine x).drive = s.drive := rfl
@[simp] theorem State.setLeak_drive (s : State) (x : Leak) : (s.setLeak x).drive = s.drive := rfl
@[simp] theorem State.setNotices_drive (s : State) (x : Notices) : (s.setNotices x).drive = s.drive := rfl
@[simp] theorem State.setLoader_drive (s : State) (x : LoaderState) : (s.setLoader x).drive = s.drive := rfl
@[simp] theorem State.setReports_drive (s : State) (x : ReportQueue) : (s.setReports x).drive = s.drive := rfl
@[simp] theorem State.setFreeCount_drive (s : State) (x : Nat) : (s.setFreeCount x).drive = s.drive := rfl
@[simp] theorem State.setPending_drive (s : State) (x : List Instr) : (s.setPending x).drive = s.drive := rfl

theorem State.setRequests_drive (s : State) (x : RequestUnit) :
    (s.setRequests x).drive = { s.drive with resetting := x.resetWait.isSome } := rfl

@[simp] theorem raise_drive (s : State) (src : Source) (bay : Option Bay) (serial : Option Serial) (d : Detail) :
    (raise s src bay serial d).drive = s.drive := rfl

@[simp] theorem updateUnit_drive (s : State) (p : Position) (f : UnitRecord → UnitRecord) :
    (updateUnit s p f).drive = s.drive := rfl

@[simp] theorem updateChannel_drive (s : State) (c : Nat) (f : Channel → Channel) :
    (updateChannel s c f).drive = s.drive := rfl

@[simp] theorem updateStream_drive (s : State) (i : Nat) (f : StreamEntry → StreamEntry) :
    (updateStream s i f).drive = s.drive := rfl

@[simp] theorem updateStreamRun_drive (s : State) (i : Nat) (f : StreamRun → StreamRun) :
    (updateStreamRun s i f).drive = s.drive := rfl

@[simp] theorem updateSlot_drive (s : State) (n : Nat) (f : OrderSlot → OrderSlot) :
    (updateSlot s n f).drive = s.drive := by
  unfold updateSlot; split <;> rfl

@[simp] theorem setStats_drive (s : State) (slot : Nat) (x : Stats) : (setStats s slot x).drive = s.drive := by
  unfold setStats; split <;> rfl

@[simp] theorem dequeue_drive (s : State) : (dequeue s).drive = s.drive := rfl

@[simp] theorem enqueueReply_drive (s : State) (r : Reply) : (enqueueReply s r).drive = s.drive := rfl

/-! ## The Order Engine -/

@[simp] theorem openWindow_drive (s : State) (g : Nat) (slot : Option Nat) :
    (openWindow s g slot).2.drive = s.drive := by
  unfold openWindow; repeat' split
  all_goals rfl

@[simp] theorem withWindow_drive (s : State) (f : Window → OrderSet → Nat → Window) :
    (withWindow s f).drive = s.drive := by
  unfold withWindow; repeat' split
  all_goals rfl

@[simp] theorem engineBreak_drive (s : State) : (engineBreak s).drive = s.drive := by
  unfold engineBreak; split <;> rfl

@[simp] theorem engineWithdraw_drive (s : State) (c : Nat) : (engineWithdraw s c).drive = s.drive := by
  unfold engineWithdraw; split <;> rfl

@[simp] theorem closeWindow_drive (s : State) : (closeWindow s).2.drive = s.drive := by
  obtain ⟨-, -, -, hrun, harb, -⟩ := closeWindow_frame s
  exact (closeWindow_jobStep s).drive hrun (congrArg Arbiter.driveSlot harb)

/-! ## The Run-in Sequencer -/

/-- A change of the run that leaves its phase, or moves it among the supervised ones. -/
theorem updateRun_drive {s : State} {f : SpinRun → SpinRun}
    (hf : ∀ r, s.runIn.run = some r → (f r).phase.supervised = r.phase.supervised) :
    (updateRun s f).drive = s.drive := by
  unfold updateRun
  split
  · rfl
  · next r hr => simp [State.drive, hr, hf r hr]

@[simp] theorem runInSpeed_drive (s : State) (v : Option Int) : (runInSpeed s v).drive = s.drive := by
  unfold runInSpeed
  repeat' split
  · rfl
  · exact updateRun_drive fun r _ => by cases v <;> rfl
  · rfl

@[simp] theorem runInLostLock_drive (s : State) : (runInLostLock s).drive = s.drive := updateRun_drive fun _ _ => rfl

@[simp] theorem writeRunin_drive (s : State) (r : SpinRun) (b : Bool) : (writeRunin s r b).drive = s.drive := by
  unfold writeRunin; split <;> rfl

@[simp] theorem raiseRunin_drive (s : State) (src : Source) (r : SpinRun) : (raiseRunin s src r).drive = s.drive := by
  unfold raiseRunin; split <;> rfl

@[simp] theorem writeGuardTime_drive (s : State) : (writeGuardTime s).drive = s.drive := by
  unfold writeGuardTime; split <;> rfl

/-! ## The Leak Sequencer -/

@[simp] theorem placeValve_drive (s : State) (c : ValveCommand) : (placeValve s c).drive = s.drive := by
  unfold placeValve; split <;> rfl

@[simp] theorem issueValve_drive (s : State) (k : ValveKind) : (issueValve s k).drive = s.drive := by
  unfold issueValve; split <;> simp

@[simp] theorem repeatValve_drive (s : State) : (repeatValve s).drive = s.drive := by
  unfold repeatValve; (repeat' split) <;> simp

@[simp] theorem updateTest_drive (s : State) (f : LeakRun → LeakRun) : (updateTest s f).drive = s.drive := by
  unfold updateTest; split <;> rfl

@[simp] theorem takeLeakOutcome_drive (s : State) (o : LeakOutcome) (r : Option LeakResult) :
    (takeLeakOutcome s o r).drive = s.drive := by
  unfold takeLeakOutcome; (repeat' split) <;> simp [enterPhase]

@[simp] theorem enterMeasure_drive (s : State) : (enterMeasure s).drive = s.drive := by
  unfold enterMeasure; split <;> rfl

@[simp] theorem enterLeakSettle_drive (s : State) : (enterLeakSettle s).drive = s.drive := by
  unfold enterLeakSettle; dsimp only; (repeat' split) <;> simp [enterPhase]

@[simp] theorem endMeasure_drive (s : State) : (endMeasure s).drive = s.drive := by
  unfold endMeasure; dsimp only; (repeat' split) <;> simp

@[simp] theorem writeLeak_drive (s : State) (r : LeakRun) : (writeLeak s r).drive = s.drive := by
  unfold writeLeak; split <;> rfl

@[simp] theorem raiseLeak_drive (s : State) (src : Source) (r : LeakRun) : (raiseLeak s src r).drive = s.drive := by
  unfold raiseLeak; split <;> rfl

@[simp] theorem endVent_drive (s : State) (r : LeakRun) : (endVent s r).drive = s.drive := by
  unfold endVent; dsimp only; split <;> simp

@[simp] theorem takePressure_drive (s : State) (r : LeakRun) (x : Int) : (takePressure s r x).drive = s.drive := by
  unfold takePressure; dsimp only; (repeat' split) <;> simp

@[simp] theorem leakValue_drive (s : State) (p : Published) : (leakValue s p).drive = s.drive := by
  unfold leakValue; (repeat' split) <;> simp

@[simp] theorem leakStale_drive (s : State) (cfg : StreamConfig) : (leakStale s cfg).drive = s.drive := by
  unfold leakStale; (repeat' split) <;> simp

@[simp] theorem leakChannelLost_drive (s : State) (c : Nat) : (leakChannelLost s c).drive = s.drive := by
  unfold leakChannelLost; split <;> simp

@[simp] theorem ventTimedOut_drive (s : State) (r : LeakRun) : (ventTimedOut s r).drive = s.drive := by
  unfold ventTimedOut; dsimp only; split <;> simp

/-! ## Channels and the Angle Unit -/

@[simp] theorem channelsGone_drive (s : State) (bs : List (Option Nat)) : (channelsGone s bs).drive = s.drive := by
  rw [channelsGone_eq]; rfl

@[simp] theorem finishSet_drive (s : State) (st : Stand) (fs : Nat) (t : Track) (turn : Turn) (pos : Pos)
    (filled : Bool) (values : List Published) : (finishSet s st fs t turn pos filled values).drive = s.drive := by
  unfold finishSet; dsimp only; (repeat' split) <;> simp [engineRecord, engineBoundary]

@[simp] theorem loseReference_drive (s : State) : (loseReference s).drive = s.drive := by
  unfold loseReference; split <;> simp

@[simp] theorem clearHistory_drive (s : State) : (clearHistory s).drive = s.drive := rfl

@[simp] theorem gapEvent_drive (s : State) (i : Nat) : (gapEvent s i).drive = s.drive := by
  unfold gapEvent; split <;> simp

@[simp] theorem angleGone_drive (s : State) (i : Nat) : (angleGone s i).drive = s.drive := by
  unfold angleGone; split <;> simp

@[simp] theorem clearAngle_drive (s : State) : (clearAngle s).1.drive = s.drive := by
  unfold clearAngle; split <;> rfl

/-! ## The Request Unit, the ring and the Configuration Loader -/

@[simp] theorem enqueueRequest_drive (s : State) (q : Request) : (enqueueRequest s q).drive = s.drive := by
  unfold enqueueRequest; split <;> rfl

@[simp] theorem enqueueRequests_drive (qs : List Request) (s : State) :
    (qs.foldl enqueueRequest s).drive = s.drive := by
  induction qs generalizing s with
  | nil => rfl
  | cons q qs ih => simp [ih]

@[simp] theorem receiveRequest_drive (s : State) (src : Nat) (payload : List Byte) :
    (receiveRequest s src payload).drive = s.drive := enqueueRequests_drive _ _

@[simp] theorem assemblyExpires_drive (s : State) : (assemblyExpires s).drive = s.drive := by
  unfold assemblyExpires
  split
  · rfl
  · exact enqueueRequest_drive _ _

@[simp] theorem countBad_drive (s : State) : (countBad s).drive = s.drive := rfl

@[simp] theorem ringDown_drive (s : State) : (ringDown s).drive = s.drive := rfl

@[simp] theorem forwardFrame_drive (s : State) (frame : List Byte) : (forwardFrame s frame).drive = s.drive := by
  unfold forwardFrame; repeat' split
  all_goals rfl

@[simp] theorem goodArrival_drive (s : State) : (goodArrival s).drive = s.drive := by
  unfold goodArrival; dsimp only; split <;> rfl

/-- A safe command reported transmitted leaves the station reset in progress (R170). -/
@[simp] theorem reportTransmitted_drive (s : State) (o : Origin) : (reportTransmitted s o).drive = s.drive := by
  cases o with
  | transit | notice => rfl
  | drive n | valve n => simp [reportTransmitted, reportCommand, State.drive]
  | reply => simp only [reportTransmitted, reportReply]; (repeat' split) <;> rfl
  | report number segment => simp only [reportTransmitted, reportSegment]; (repeat' split) <;> rfl

@[simp] theorem lineEnds_drive (s : State) : (lineEnds s).drive = s.drive := by
  unfold lineEnds; split <;> simp

@[simp] theorem imageRead_drive (s : State) (image : Option (List Byte)) : (imageRead s image).drive = s.drive := by
  unfold imageRead; split <;> rfl

end Sys2Proof.Machine
end

section
/-! The requests that leave alone what `State.DriveSound` speaks of. -/
namespace Sys2Proof.Machine

theorem bindTables_drive (z : Sizes) (s : State) : (bindTables z s).1.drive = s.drive := by
  unfold bindTables; repeat' split
  all_goals rfl

theorem loadVariant_drive (slot : Nat) (record : Option Variant) (s : State) :
    (loadVariant slot record s).1.drive = s.drive := by
  unfold loadVariant; repeat' split
  all_goals rfl

theorem loadProfile_drive (p : Nat) (segments : Option (List Segment)) (s : State) :
    (loadProfile p segments s).1.drive = s.drive := by
  unfold loadProfile; repeat' split
  all_goals rfl

theorem loadOrderSet_drive (slot : Nat) (set : Option OrderSet) (s : State) :
    (loadOrderSet slot set s).1.drive = s.drive := by
  unfold loadOrderSet; (repeat' split) <;> simp

theorem swapOrderSet_drive (slot : Nat) (s : State) : (swapOrderSet slot s).1.drive = s.drive := by
  unfold swapOrderSet; (repeat' split) <;> simp [carryOutSwap]

theorem onStats_drive (slot : Nat) (f : Stats → Stats) (s : State) : (onStats slot f s).1.drive = s.drive := by
  unfold onStats; (repeat' split) <;> simp

theorem setNotice_drive (settings : Option NoticeSettings) (s : State) :
    (setNotice settings s).1.drive = s.drive := by
  unfold setNotice; split <;> rfl

theorem clearNotice_drive (sources : BitVec 16) (s : State) : (clearNotice sources s).1.drive = s.drive := by
  unfold clearNotice; split <;> rfl

theorem loadChannel_drive (c : Nat) (cfg : Option ChannelConfig) (s : State) :
    (loadChannel c cfg s).1.drive = s.drive := by
  unfold loadChannel; repeat' split
  all_goals rfl

theorem clearChannel_drive (c : Nat) (s : State) : (clearChannel c s).1.drive = s.drive := by
  unfold clearChannel; split <;> rfl

theorem admitUnit_drive (serial : Serial) (variant : Nat) (s : State) :
    (admitUnit serial variant s).1.drive = s.drive := by
  unfold admitUnit; repeat' split
  all_goals rfl

theorem advanceA_drive (s : State) : (advanceA s).1.drive = s.drive := by
  unfold advanceA; repeat' split
  all_goals rfl

theorem advanceB_drive (s : State) : (advanceB s).1.drive = s.drive := by
  unfold advanceB; repeat' split
  all_goals rfl

@[simp] theorem formReport_drive (s : State) (u : UnitRecord) (v : Verdict) (basis required : Checks) :
    (formReport s u v basis required).drive = s.drive := rfl

@[simp] theorem removeUnit_drive (s : State) (u : UnitRecord) (bay : Option Bay) (v : Verdict) :
    (removeUnit s u bay v).drive = s.drive := rfl

@[simp] theorem releaseStats_drive (s : State) (u : UnitRecord) (v : Verdict) :
    (releaseStats s u v).drive = s.drive := by
  unfold releaseStats; dsimp only; (repeat' split) <;> simp

theorem release_drive (s : State) : (release s).1.drive = s.drive := by
  unfold release; dsimp only; (repeat' split) <;> simp

theorem withdraw_drive (serial : Serial) (s : State) : (withdraw serial s).1.drive = s.drive := by
  unfold withdraw; repeat' split
  all_goals rfl

theorem startLeak_drive (s : State) : (startLeak s).1.drive = s.drive := by
  unfold startLeak; dsimp only; split <;> simp

theorem abortLeak_drive (s : State) : (abortLeak s).1.drive = s.drive := by
  unfold abortLeak; split <;> simp

theorem clearFaultB_drive (s : State) : (clearFaultB s).1.drive = s.drive := by
  unfold clearFaultB; dsimp only; (repeat' split) <;> simp

theorem angleFieldsChange_drive (s : State) (new : Stand) : (angleFieldsChange s new).drive = s.drive := by
  unfold angleFieldsChange; dsimp only; (repeat' split) <;> simp

end Sys2Proof.Machine
end

section
/-! The drive commands (R88, R89): what issuing one does to the newest command and the slot, and that a stop leaves none
with a target speed. -/
namespace Sys2Proof.Machine

/-! ## What `State.DriveSound` asks of the view -/

structure DriveView.Sound (v : DriveView) : Prop where
  stand : v.supervised.isSome = true → v.stand = true
  guard : v.guard = true → v.supervised ≠ some true
  last : ∀ c, v.last = some c → c.speed ≠ 0 → v.resetting = false ∧ v.supervised = some true
  slot : ∀ n c, v.slot = some (n, c) → c.speed ≠ 0 → v.last = some c

theorem driveSound_iff (s : State) : s.DriveSound ↔ s.drive.Sound := by
  have hguard : (∀ r, s.runIn.run = some r → r.phase.supervised = false) ↔ s.drive.supervised ≠ some true := by
    simp [State.drive]
  have hlast : (s.requests.resetWait = none ∧ ∃ r, s.runIn.run = some r ∧ r.phase.supervised = true) ↔
      s.drive.resetting = false ∧ s.drive.supervised = some true := by simp [State.drive]
  have hstand : s.runIn.run.isSome = s.drive.supervised.isSome := by simp [State.drive]
  constructor
  · rintro ⟨h1, h2, h3, h4⟩
    exact ⟨hstand ▸ h1, fun hg => hguard.1 (h2 hg), fun c hc hne => hlast.1 (h3 c hc hne), h4⟩
  · rintro ⟨h1, h2, h3, h4⟩
    exact ⟨hstand ▸ h1, fun hg => hguard.2 (h2 hg), fun c hc hne => hlast.2 (h3 c hc hne), h4⟩

theorem State.DriveSound.of_drive {s t : State} (h : s.DriveSound) (hv : t.drive = s.drive) : t.DriveSound := by
  rw [driveSound_iff] at h ⊢
  rwa [hv]

theorem supervised_of_run {s : State} {r : SpinRun} (hr : s.runIn.run = some r) (b : Bool)
    (hs : r.phase.supervised = b) : s.drive.supervised = some b := by simp [State.drive, hr, hs]

/-- A run has its stand record. -/
theorem State.DriveSound.stand_of_run {s : State} (h : s.DriveSound) (hrun : s.drive.supervised.isSome = true) :
    ∃ st, s.stand = some st := Option.isSome_iff_exists.1 (((driveSound_iff s).1 h).stand hrun)

/-! ## Halted -/

/-- Neither the newest drive command nor the one waiting in the slot has a target speed. -/
structure DriveView.Halted (v : DriveView) : Prop where
  last : ∀ c, v.last = some c → c.speed = 0
  slot : ∀ n c, v.slot = some (n, c) → c.speed = 0

/-- Outside RAMP, SETTLE and HOLD, and during a station reset, a sound part is halted. -/
theorem State.DriveSound.halted {s : State} (h : s.DriveSound)
    (hstop : s.requests.resetWait ≠ none ∨ s.drive.supervised ≠ some true) : s.drive.Halted := by
  obtain ⟨-, -, hlast, hslot⟩ := (driveSound_iff s).1 h
  have hhalted : ∀ c, s.drive.last = some c → c.speed = 0 := fun c hc => by
    by_contra hne
    obtain ⟨hwait, hsup⟩ := hlast c hc hne
    rcases hstop with hw | hrun
    · simp [State.drive, hw] at hwait
    · exact hrun hsup
  refine ⟨hhalted, fun n c hc => ?_⟩
  by_contra hne
  exact hne (hhalted c (hslot n c hc hne))

/-- A halted part is sound where a run has its stand record and none is supervised with the guard asserted. -/
theorem driveSound_of_halted {s : State} (h : s.drive.Halted)
    (hstand : s.drive.supervised.isSome = true → s.drive.stand = true)
    (hguard : s.drive.guard = true → s.drive.supervised ≠ some true) : s.DriveSound :=
  (driveSound_iff s).2
    ⟨hstand, hguard, fun c hc hne => absurd (h.last c hc) hne, fun n c hc hne => absurd (h.slot n c hc) hne⟩

/-! ## What every step keeps -/

/-- From `s` to `t` the drive stays safe. -/
def DriveKept (s t : State) : Prop := s.DriveSound → t.DriveSound

theorem DriveKept.refl (s : State) : DriveKept s s := id

theorem DriveKept.trans {s t u : State} (h : DriveKept s t) (k : DriveKept t u) : DriveKept s u := k ∘ h

theorem DriveKept.ite {p : Prop} [Decidable p] {s a b : State} (ha : DriveKept s a) (hb : DriveKept s b) :
    DriveKept s (if p then a else b) := by split <;> assumption

theorem DriveKept.of_drive {s t : State} (h : t.drive = s.drive) : DriveKept s t := fun hs => hs.of_drive h

/-- The idle line empties the drive slot at most. -/
theorem pump_driveKept (s : State) : DriveKept s (pump s) := fun h => by
  have hslot : (pump s).arbiter.driveSlot = s.arbiter.driveSlot ∨ (pump s).arbiter.driveSlot = none := by
    unfold pump
    repeat' split
    · exact .inl rfl
    · exact .inl rfl
    · exact .inl rfl
    · exact .inl rfl
    · next o _ => cases o <;> simp only [insertOffer, putOnLine] <;> (try split) <;> simp
  have hline := pump_lineStep s
  constructor
  · rw [hline.runIn, hline.stand]; exact h.stand
  · rw [hline.runIn]; exact h.guard
  · rw [hline.runIn, hline.requests]; exact h.last
  · rw [hline.runIn]
    rcases hslot with hs | hs
    · rw [hs]; exact h.slot
    · rw [hs]; intro n c hc; cases hc

/-! ## Commands issued -/

/-- What a command built and placed at once leaves behind (R88). -/
theorem issueDriveNow_drive {s : State} {st : Stand} (hst : s.stand = some st) (run : Bool) (speed : Int) (ramp : Nat)
    (torque : Int) :
    let c := nextDrive s run speed ramp torque
    (issueDriveNow s run speed ramp torque).drive =
      { s.drive with last := some c, slot := some (st.driveNode, c) } := by
  simp only [issueDriveNow, placeDrive, State.setRunIn_stand, hst]
  rfl

/-- A command without a target speed leaves the part halted; held back by a station reset it leaves what the reset left
(R97, R169). -/
theorem driveIssued_halted {s t : State} {st : Stand} {c : DriveCommand} (h : driveIssued s t st c) (hc : c.speed = 0)
    (hw : s.requests.resetWait ≠ none → s.drive.Halted) : t.drive.Halted := by
  unfold driveIssued at h
  split at h
  · next hheld =>
    obtain ⟨-, hlast, -, hslot⟩ := h
    obtain ⟨hl, hs⟩ := hw (Option.isSome_iff_ne_none.1 hheld)
    exact ⟨fun d hd => hl d (hlast.symm.trans hd), fun n d hd => hs n d (hslot.symm.trans hd)⟩
  · obtain ⟨-, hlast, -, hslot⟩ := h
    constructor
    · intro d hd
      cases hlast.symm.trans hd
      exact hc
    · intro n d hd
      cases hslot.symm.trans hd
      exact hc

end Sys2Proof.Machine
end

section
/-! What the Run-in Sequencer does to the drive (R85 to R100), and what the streams and channels make it do (R93). -/
namespace Sys2Proof.Machine

/-! ## Outcomes (R94, R97) -/

/-- An outcome taken in RAMP, SETTLE or HOLD stops the drive, whatever the guard state. -/
theorem takeOutcome_driveSound {s : State} {r : SpinRun} {st : Stand} (hr : s.runIn.run = some r)
    (hs : r.phase.supervised = true) (hst : s.stand = some st) (hw : s.requests.resetWait ≠ none → s.drive.Halted)
    (o : RuninOutcome) : (takeOutcome s o).DriveSound := by
  have ht := takeOutcome_taken hr hs hst o
  have hstand : (takeOutcome s o).stand = some st := ht.step.stand.trans hst
  have hstopped := supervised_of_run ht.run false rfl
  exact driveSound_of_halted (driveIssued_halted ht.command (nextDrive_stop _ _ _ _) hw)
    (by simp [State.drive, hstand]) (by simp [hstopped])

theorem takeOutcome_driveKept (s : State) (o : RuninOutcome) : DriveKept s (takeOutcome s o) := fun h => by
  by_cases hrun : ∃ r, s.runIn.run = some r ∧ r.phase.supervised = true
  · obtain ⟨r, hr, hs⟩ := hrun
    obtain ⟨st, hst⟩ := h.stand_of_run (by rw [supervised_of_run hr true hs]; rfl)
    exact takeOutcome_driveSound hr hs hst (fun hw => h.halted (.inl hw)) o
  · rwa [takeOutcome_of_unsupervised (by simpa using hrun)]

/-- An assertion of the guard takes an outcome where a run is supervised, and so leaves none (R96). -/
theorem guardEdge_driveKept (s : State) (asserted : Bool) : DriveKept s (guardEdge s asserted) := fun h => by
  cases asserted with
  | false =>
    rw [guardEdge_released]
    exact { h with guard := nofun }
  | true =>
    have hrunIn : (guardTimed s).runIn = { s.runIn with guardAsserted := true } := by rw [guardTimed_eq]; rfl
    have hview : (guardTimed s).drive = { s.drive with guard := true } := by rw [guardTimed_eq]; rfl
    rw [guardEdge_asserted]
    by_cases hrun : ∃ r, s.runIn.run = some r ∧ r.phase.supervised = true
    · obtain ⟨r, hr, hs⟩ := hrun
      obtain ⟨st, hst⟩ := h.stand_of_run (by rw [supervised_of_run hr true hs]; rfl)
      have hstand : (guardTimed s).stand = some st := by rw [guardTimed_eq]; exact hst
      have hwait : (guardTimed s).requests = s.requests := by rw [guardTimed_eq]; rfl
      refine takeOutcome_driveSound (r := r) (by rw [hrunIn, hr]) hs hstand (fun hw => ?_) _
      obtain ⟨hlast, hslot⟩ := h.halted (.inl (hwait ▸ hw))
      rw [hview]
      exact ⟨hlast, hslot⟩
    · rw [takeOutcome_of_unsupervised (by simpa [hrunIn] using hrun)]
      obtain ⟨hstand, -, hlast, hslot⟩ := (driveSound_iff s).1 h
      rw [driveSound_iff, hview]
      exact ⟨hstand, fun _ => by simpa [State.drive] using hrun, hlast, hslot⟩

/-! ## Segments (R85 to R87) -/

/-- A change of the run to a phase supervised, or not, as it was, leaves the drive as it is. -/
theorem updateRun_drive_of_supervised {s : State} {b : Bool} (h : s.drive.supervised = some b) {f : SpinRun → SpinRun}
    (hf : ∀ r, (f r).phase.supervised = b) : (updateRun s f).drive = s.drive := by
  refine updateRun_drive fun r hr => ?_
  obtain ⟨q, hq, hsup⟩ := Option.map_eq_some_iff.1 h
  cases hq.symm.trans hr
  rw [hf, hsup]

@[simp] theorem issueDrive_supervised (s : State) (run : Bool) (speed : Int) (ramp : Nat) (torque : Int) :
    (issueDrive s run speed ramp torque).drive.supervised = s.drive.supervised := by simp [State.drive]

section
variable {s : State} (hs : s.drive.supervised = some true)
include hs

theorem holdEntry_driveKept : DriveKept s (holdEntry s) := by
  unfold holdEntry
  repeat' split
  · exact .refl s
  · have hopen := openWindow_drive s
    refine .of_drive ((updateRun_drive_of_supervised (b := true) ?_ ?_).trans (hopen _ _))
    · rw [hopen, hs]
    · exact fun _ => rfl
  · exact takeOutcome_driveKept s _

theorem enterSettle_driveKept : DriveKept s (enterSettle s) := by
  unfold enterSettle
  split
  · exact .refl s
  · have hsettle := updateRun_drive_of_supervised hs
      (f := fun r => { r with phase := .settle, phaseStart := s.timeBase }) fun _ => rfl
    have hkept := DriveKept.of_drive hsettle
    dsimp only
    repeat' split
    · exact hkept.trans (holdEntry_driveKept (by rw [hsettle, hs]))
    · exact hkept
    · exact hkept

/-- A command is issued in RAMP, SETTLE or HOLD: it becomes the newest and the one in the slot (R88). -/
theorem issueDrive_driveKept (run : Bool) (speed : Int) (ramp : Nat) (torque : Int) :
    DriveKept s (issueDrive s run speed ramp torque) := fun h => by
  by_cases hw : s.requests.resetWait = none
  · obtain ⟨st, hst⟩ := h.stand_of_run (by rw [hs]; rfl)
    obtain ⟨hstand, hguard, -, -⟩ := (driveSound_iff s).1 h
    have hfree : s.drive.resetting = false := by simp [State.drive, hw]
    rw [issueDrive_of_free hw, State.driveSlotWith_of_stand hst, driveSound_iff]
    exact ⟨hstand, hguard, fun _ _ _ => ⟨hfree, hs⟩, by rintro _ _ ⟨⟩ -; rfl⟩
  · rwa [issueDrive_of_held hw]

theorem beginSegment_driveKept (i : Nat) : DriveKept s (beginSegment s i) := by
  unfold beginSegment
  split
  · exact .refl s
  · split
    · exact .refl s
    · next seg _ =>
      have hsup : (issueDrive s true seg.target seg.ramp seg.load).drive.supervised = some true := by
        rw [issueDrive_supervised, hs]
      have hramp := updateRun_drive_of_supervised hsup
        (f := fun r => { r with segment := i, phase := .ramp, phaseStart := s.timeBase }) fun _ => rfl
      have hkept := (issueDrive_driveKept hs true seg.target seg.ramp seg.load).trans (.of_drive hramp)
      exact .ite (hkept.trans (enterSettle_driveKept (by rw [hramp, hsup]))) hkept

theorem endHold_driveKept : DriveKept s (endHold s) := by
  unfold endHold
  split
  · exact .refl s
  · have hclosed (f : UnitRecord → UnitRecord) : (updateUnit (closeWindow s).2 .bayA f).drive = s.drive := by simp
    have hkept (f : UnitRecord → UnitRecord) := DriveKept.of_drive (hclosed f)
    exact .ite ((hkept _).trans (beginSegment_driveKept (by rw [hclosed, hs]) _))
      ((hkept _).trans (takeOutcome_driveKept _ _))

end

/-! ## Supervision (R90 to R93) -/

theorem takeTorque_driveKept (s : State) (r : SpinRun) (x : Int) : DriveKept s (takeTorque s r x) := by
  unfold takeTorque
  dsimp only
  generalize hs2 : (if r.phase = .hold then _ else _ : State) = s2
  have hkept : DriveKept s s2 := .of_drive (by rw [← hs2]; split <;> simp [updateRun_drive])
  split
  · exact .ite (hkept.trans (takeOutcome_driveKept _ _)) hkept
  · exact hkept

theorem takeOil_driveKept (s : State) (r : SpinRun) (x : Int) : DriveKept s (takeOil s r x) := by
  unfold takeOil
  dsimp only
  generalize hs2 : (if r.phase = .hold then _ else _ : State) = s2
  have hkept : DriveKept s s2 := .of_drive (by rw [← hs2]; split <;> simp [updateRun_drive])
  exact .ite (hkept.trans (takeOutcome_driveKept _ _)) hkept

theorem runInValue_driveKept (s : State) (p : Published) : DriveKept s (runInValue s p) := by
  unfold runInValue
  repeat' split
  · exact .refl s
  · exact takeTorque_driveKept s _ _
  · exact takeOil_driveKept s _ _
  · exact .refl s
  · exact .refl s

theorem runInStale_driveKept (s : State) (i : Nat) (cfg : StreamConfig) : DriveKept s (runInStale s i cfg) := by
  unfold runInStale
  split
  · exact .refl s
  · exact .ite (takeOutcome_driveKept s _) (.refl s)

theorem runInChannelLost_driveKept (s : State) (c : Nat) : DriveKept s (runInChannelLost s c) :=
  .ite (takeOutcome_driveKept s _) (.refl s)

/-! ## Stopping (R98 to R100) -/

section
variable {s : State} (hrun : s.drive.supervised.isSome = true)
include hrun

/-- A command without a target speed, issued outside IDLE, leaves the part halted. -/
theorem issueDrive_halted (h : s.DriveSound) (run : Bool) (ramp : Nat) (torque : Int) :
    (issueDrive s run 0 ramp torque).drive.Halted := by
  obtain ⟨st, hst⟩ := h.stand_of_run hrun
  exact driveIssued_halted (issueDrive_issued hst run 0 ramp torque) (nextDrive_stop _ _ _ _)
    fun hw => h.halted (.inl hw)

theorem issueDrive_stop_driveKept (run : Bool) (ramp : Nat) (torque : Int) :
    DriveKept s (issueDrive s run 0 ramp torque) := fun h => by
  refine driveSound_of_halted (issueDrive_halted hrun h run ramp torque) ?_ ?_
  · have hstand : (issueDrive s run 0 ramp torque).drive.stand = s.drive.stand :=
      congrArg Option.isSome (issueDrive_jobStep s run 0 ramp torque).stand
    rw [issueDrive_supervised, hstand]
    exact ((driveSound_iff s).1 h).stand
  · have hguard : (issueDrive s run 0 ramp torque).drive.guard = s.drive.guard := issueDrive_guardAsserted ..
    rw [issueDrive_supervised, hguard]
    exact ((driveSound_iff s).1 h).guard

end

/-- The return to IDLE after a stop (R98). -/
theorem endStopping_driveKept {s : State} {r : SpinRun} (hr : s.runIn.run = some r) :
    DriveKept s (endStopping s r) := fun h => by
  have hview : (raiseRunin (if r.written then s else writeRunin s r false) .runinEnd r).drive = s.drive := by
    split <;> simp
  have hrun : s.drive.supervised.isSome = true := by simp [State.drive, hr]
  obtain ⟨hlast, hslot⟩ := issueDrive_halted (hview ▸ hrun) (h.of_drive hview) false 0 0
  have hidle : (endStopping s r).drive.supervised = none := rfl
  exact driveSound_of_halted ⟨hlast, hslot⟩ (by simp [hidle]) (by simp [hidle])

theorem runInStandstill_driveKept (s : State) : DriveKept s (runInStandstill s) := by
  unfold runInStandstill
  split
  · exact .refl s
  · next hr => exact .ite (endStopping_driveKept hr) (.refl s)

/-- FAULTED after a stop command that did not end in standstill (R99). -/
theorem stopTimedOut_driveKept {s : State} {r : SpinRun} (hr : s.runIn.run = some r) (hs : r.phase = .stopping) :
    DriveKept s (stopTimedOut s r) := by
  have hsup := supervised_of_run hr false (by rw [hs]; rfl)
  have hwritten : (if r.written then s else writeRunin s r true).drive = s.drive := by split <;> simp
  unfold stopTimedOut
  dsimp only
  generalize (if r.written then s else writeRunin s r true : State) = s1 at *
  have hsup1 : s1.drive.supervised = some false := by rw [hwritten, hsup]
  have hsome : s1.drive.supervised.isSome = true := by rw [hsup1]; rfl
  have hissued := (DriveKept.of_drive hwritten).trans (issueDrive_stop_driveKept hsome false 0 0)
  refine hissued.trans (.of_drive ((updateRun_drive_of_supervised (b := false) ?_ ?_).trans (raiseRunin_drive _ _ _)))
  · rw [raiseRunin_drive, issueDrive_supervised, hsup1]
  · exact fun _ => rfl

theorem repeatDrive_driveKept (s : State) : DriveKept s (repeatDrive s) := fun h => by
  unfold repeatDrive
  split
  · exact h
  · split
    · exact h
    · next c hc =>
      unfold placeDrive
      split
      · exact h.of_drive rfl
      · exact ⟨h.stand, h.guard, h.last, by rintro n d ⟨⟩ -; exact hc⟩

/-! ## Channels and streams (R93) -/

theorem channelLost_driveKept (s : State) (c : Nat) : DriveKept s (channelLost s c) :=
  ((DriveKept.of_drive (engineWithdraw_drive s c)).trans (runInChannelLost_driveKept _ c)).trans
    (.of_drive (leakChannelLost_drive _ c))

theorem publish_driveKept (s : State) (p : Published) : DriveKept s (publish s p) :=
  (runInValue_driveKept s p).trans (.of_drive (leakValue_drive _ p))

theorem channelValue_driveKept (s : State) (c : Nat) (raw : Int) (filled : Bool) :
    DriveKept s (channelValue s c raw filled).1 := by
  have htaken := DriveKept.of_drive (updateChannel_drive s c (fun ch => (ch.take raw filled).1))
  unfold channelValue
  dsimp only
  repeat' split
  · exact .refl s
  · exact .refl s
  · exact htaken
  · exact htaken
  · exact htaken.trans ((DriveKept.of_drive (raise_drive _ _ _ _ _)).trans (channelLost_driveKept _ c))
  · exact htaken.trans (publish_driveKept _ _)

theorem deliverValues_driveKept (s : State) (filled : Bool) (bs : List (Option Nat)) (raws : List Int) :
    DriveKept s (deliverValues s filled bs raws).1 := by
  induction bs generalizing s raws with
  | nil => exact .refl s
  | cons b bs ih =>
    cases raws with
    | nil => cases b <;> exact .refl s
    | cons r raws =>
      cases b with
      | none => exact ih s raws
      | some c => exact (channelValue_driveKept s c r filled).trans (ih _ raws)

theorem angleFaults_driveKept (s : State) (st : Stand) (t : Track) : DriveKept s (angleFaults s st t) := by
  unfold angleFaults
  exact (DriveKept.of_drive (by simp)).trans (takeOutcome_driveKept _ _)

theorem followSet_driveKept (s : State) (st : Stand) (fs : Nat) (pos : Pos) (capture : Option Pos) (filled : Bool)
    (values : List Published) : DriveKept s (followSet s st fs pos capture filled values) := by
  unfold followSet
  dsimp only
  repeat' split
  · exact .refl s
  · exact .refl s
  · exact .of_drive (finishSet_drive _ _ _ _ _ _ _ _)
  · exact .of_drive (finishSet_drive _ _ _ _ _ _ _ _)
  · exact (DriveKept.of_drive (State.setAngle_drive s _)).trans (angleFaults_driveKept _ _ _)
  · exact .of_drive (finishSet_drive _ _ _ _ _ _ _ _)

theorem angleSet_driveKept (s : State) (pos : Pos) (capture : Option Pos) (filled : Bool) (values : List Published) :
    DriveKept s (angleSet s pos capture filled values) := by
  unfold angleSet
  split
  · exact ((DriveKept.of_drive (State.setAngle_drive s _)).trans (followSet_driveKept _ _ _ _ _ _ _)).trans
      (runInStandstill_driveKept _)
  · exact .refl s

theorem spinGone_driveKept (s : State) (i : Nat) (cfg : StreamConfig) : DriveKept s (spinGone s i cfg) := by
  refine .ite ?_ (runInStale_driveKept s i cfg)
  unfold sourceGone
  dsimp only
  split
  · exact ((DriveKept.of_drive (State.setFreeCount_drive s _)).trans (.of_drive (engineBreak_drive _))).trans
      (runInStale_driveKept _ i cfg)
  · exact ((DriveKept.of_drive (State.setFreeCount_drive s _)).trans (runInStale_driveKept _ i cfg)).trans
      (.of_drive (engineBreak_drive _))

theorem streamGone_driveKept (s : State) (i : Nat) (cfg : StreamConfig) : DriveKept s (streamGone s i cfg) := by
  rw [streamGone_eq]
  refine ((DriveKept.of_drive ?_).trans (spinGone_driveKept _ i cfg)).trans (.of_drive (leakStale_drive _ cfg))
  rw [angleGone_drive, channelsGone_drive]

theorem deliver_driveKept (s : State) (i : Nat) (cfg : StreamConfig) (set : SampleSet) (filled : Bool) :
    DriveKept s (deliver s i cfg set filled) := by
  have h := deliverValues_driveKept s filled cfg.binding set.values
  unfold deliver
  refine DriveKept.trans ?_ (.of_drive (updateStreamRun_drive _ _ _))
  split
  · exact .ite (h.trans (angleSet_driveKept _ _ _ _ _)) h
  · exact h

theorem acceptSet_driveKept (s : State) (i : Nat) (cfg : StreamConfig) (q : Nat) (set : SampleSet) :
    DriveKept s (acceptSet s i cfg q set) :=
  (DriveKept.of_drive (updateStreamRun_drive s i _)).trans (deliver_driveKept _ _ _ _ _)

theorem fillBefore_driveKept (s : State) (i : Nat) (cfg : StreamConfig) (run : StreamRun) (set : SampleSet) :
    DriveKept s (fillBefore s i cfg run set) := by
  unfold fillBefore
  split
  · exact .refl s
  · exact (DriveKept.of_drive (updateStreamRun_drive s i _)).trans (deliver_driveKept _ _ _ _ _)

theorem sequenceCheck_driveKept (s : State) (i : Nat) (cfg : StreamConfig) (run : StreamRun) (q : Nat)
    (set : SampleSet) : DriveKept s (sequenceCheck s i cfg run q set) := by
  unfold sequenceCheck
  repeat' split
  · exact acceptSet_driveKept _ _ _ _ _
  · exact acceptSet_driveKept _ _ _ _ _
  · exact (fillBefore_driveKept _ _ _ _ _).trans (acceptSet_driveKept _ _ _ _ _)
  · exact .of_drive (updateStreamRun_drive _ _ _)
  · exact (DriveKept.of_drive (by simp)).trans (acceptSet_driveKept _ _ _ _ _)

theorem intake_driveKept (s : State) (i : Nat) (cfg : StreamConfig) (payload : List Byte) :
    DriveKept s (intake s i cfg payload) := by
  unfold intake
  repeat' split
  · exact .refl s
  · exact .of_drive (updateStreamRun_drive _ _ _)
  · exact sequenceCheck_driveKept _ _ _ _ _ _
  · exact acceptSet_driveKept _ _ _ _ _
  · exact acceptSet_driveKept _ _ _ _ _

theorem staleExpires_driveKept (s : State) (i : Nat) : DriveKept s (staleExpires s i) := by
  unfold staleExpires
  split
  · exact .refl s
  · exact (DriveKept.of_drive (updateStreamRun_drive s i _)).trans
      ((streamGone_driveKept _ _ _).trans (.of_drive (raise_drive _ _ _ _ _)))

end Sys2Proof.Machine
end

section
/-! Every step keeps the drive from being told to turn when it may not. -/
namespace Sys2Proof.Machine

/-! ## Requests (R83, R84, R95, R100) -/

/-- What START_SPIN's acceptance has found: IDLE, the guard released, and a stand record (R83). -/
theorem startSpinCheck_accepted {s : State} {x : SpinStart} (h : startSpinCheck s = .ok x) :
    s.runIn.run = none ∧ s.runIn.guardAsserted = false ∧ s.stand = some x.stand := by
  unfold startSpinCheck at h
  (repeat' split at h) <;> cases h
  exact ⟨Option.not_isSome_iff_eq_none.1 ‹_›, Bool.eq_false_iff.2 ‹_›, ‹_›⟩

/-- The run that START_SPIN sets up finds a halted part. -/
theorem startSpin_driveKept (s : State) : DriveKept s (startSpin s).1 := fun h => by
  unfold startSpin
  split
  · exact h
  · next x hx =>
    obtain ⟨hrun, hguard, hst⟩ := startSpinCheck_accepted hx
    obtain ⟨hlast, hslot⟩ := h.halted (.inr (by simp [State.drive, hrun]))
    dsimp only
    generalize hs1 : (updateUnit s .bayA _).setRunIn _ = s1
    have hview : s1.drive = { s.drive with supervised := some true } := by rw [← hs1]; rfl
    have hsup : s1.drive.supervised = some true := by rw [hview]
    refine beginSegment_driveKept hsup 0 (driveSound_of_halted ?_ ?_ ?_)
    · rw [hview]; exact ⟨hlast, hslot⟩
    · rw [hview]; simp [State.drive, hst]
    · rw [hview]; simp [State.drive, hguard]

theorem abortSpin_driveKept (s : State) : DriveKept s (abortSpin s).1 := by
  unfold abortSpin
  split
  · exact .refl s
  · exact takeOutcome_driveKept s _

theorem clearFaultA_driveKept (s : State) : DriveKept s (clearFaultA s).1 := by
  unfold clearFaultA
  split
  · exact .refl s
  · next r hr =>
    split
    · next hf =>
      have hstop := updateRun_drive (s := s) (f := fun r => { r with phase := .stopping, phaseStart := s.timeBase })
        fun q hq => by cases hr.symm.trans hq; rw [hf]; rfl
      refine (DriveKept.of_drive hstop).trans (issueDrive_stop_driveKept ?_ true _ 0)
      rw [hstop, State.drive, hr]
      rfl
    · exact .refl s

theorem loadStand_driveKept (record : Option Stand) (s : State) : DriveKept s (loadStand record s).1 := by
  unfold loadStand
  repeat' split
  · exact .refl s
  · exact .refl s
  · exact .refl s
  · exact (DriveKept.of_drive (angleFieldsChange_drive s _)).trans fun h => { h with stand := fun _ => rfl }

theorem loadStream_driveKept (i : Nat) (config : Option StreamConfig) (s : State) :
    DriveKept s (loadStream i config s).1 := by
  unfold loadStream
  dsimp only
  repeat' split
  · exact .refl s
  · exact .refl s
  · exact .refl s
  · exact (streamGone_driveKept s i _).trans (.of_drive (updateStream_drive _ _ _))
  · exact .of_drive (updateStream_drive _ _ _)

theorem channelEnable_driveKept (c : Nat) (acquire diagnose : Option Bool) (s : State) :
    DriveKept s (channelEnable c acquire diagnose s).1 := by
  unfold channelEnable
  split
  · next acquire diagnose ch _ =>
    have henabled := DriveKept.of_drive (updateChannel_drive s c (fun ch => ch.enabled acquire diagnose))
    split
    · exact .refl s
    · exact .ite (henabled.trans (channelLost_driveKept _ c)) henabled
  · exact .refl s

/-- The effect of every request but RESET keeps the drive safe. -/
theorem effectOf_driveKept (s : State) : ∀ (r : Req) (effect : State → State × Answer), effectOf r = some effect →
    DriveKept s (effect s).1
  | .bind _, _, rfl => .of_drive (bindTables_drive _ s)
  | .readStatus, _, rfl => .refl s
  | .setNotice _, _, rfl => .of_drive (setNotice_drive _ s)
  | .clearNotice _, _, rfl => .of_drive (clearNotice_drive _ s)
  | .loadStream _ _, _, rfl => loadStream_driveKept _ _ s
  | .loadChannel _ _, _, rfl => .of_drive (loadChannel_drive _ _ s)
  | .channelEnable _ _ _, _, rfl => channelEnable_driveKept _ _ _ s
  | .clearChannel _, _, rfl => .of_drive (clearChannel_drive _ s)
  | .readChannel _ _, _, rfl => .of_drive (congrArg State.drive (readChannel_state _ _ s))
  | .readAngle, _, rfl => .refl s
  | .clearAngle, _, rfl => .of_drive (clearAngle_drive s)
  | .loadStand _, _, rfl => loadStand_driveKept _ s
  | .loadVariant _ _, _, rfl => .of_drive (loadVariant_drive _ _ s)
  | .loadProfile _ _, _, rfl => .of_drive (loadProfile_drive _ _ s)
  | .loadOrderSet _ _, _, rfl => .of_drive (loadOrderSet_drive _ _ s)
  | .swapOrderSet _, _, rfl => .of_drive (swapOrderSet_drive _ s)
  | .readTable _ _, _, rfl => .of_drive (congrArg State.drive (readTable_state _ _ s))
  | .admitUnit _ _, _, rfl => .of_drive (admitUnit_drive _ _ s)
  | .advance .a, _, rfl => .of_drive (advanceA_drive s)
  | .advance .b, _, rfl => .of_drive (advanceB_drive s)
  | .release, _, rfl => .of_drive (release_drive s)
  | .withdraw _, _, rfl => .of_drive (withdraw_drive _ s)
  | .readUnit _ _ _, _, rfl => .of_drive (congrArg State.drive (readUnit_state _ _ _ s))
  | .startSpin, _, rfl => startSpin_driveKept s
  | .abortSpin, _, rfl => abortSpin_driveKept s
  | .clearFault .a, _, rfl => clearFaultA_driveKept s
  | .clearFault .b, _, rfl => .of_drive (clearFaultB_drive s)
  | .startLeak, _, rfl => .of_drive (startLeak_drive s)
  | .abortLeak, _, rfl => .of_drive (abortLeak_drive s)
  | .readStats _, _, rfl => .of_drive (congrArg State.drive (readStats_state _ s))
  | .clearStats _, _, rfl => .of_drive (onStats_drive _ _ s)
  | .releaseVariant _, _, rfl => .of_drive (onStats_drive _ _ s)

theorem executeOne_driveKept {s : State} {q : Request} {effect : State → State × Answer}
    (h : DriveKept (dequeue s) (effect (dequeue s)).1) : DriveKept s (executeOne s q effect) :=
  ((DriveKept.of_drive (dequeue_drive s)).trans h).trans
    ((DriveKept.of_drive (enqueueReply_drive _ _)).trans (pump_driveKept _))

theorem executeKind_driveKept (s : State) {pick : Req → Option (State → State × Answer)}
    (h : ∀ r effect, pick r = some effect → effectOf r = some effect) : DriveKept s (executeKind s pick) := by
  rcases executeKind_cases s pick with he | ⟨q, r, effect, -, -, hp, he⟩ <;> rw [he]
  · exact .refl s
  · exact executeOne_driveKept (effectOf_driveKept _ r effect (h r effect hp))

theorem executeBad_driveKept (s : State) : DriveKept s (executeBad s) := by
  unfold executeBad
  repeat' split
  · exact .refl s
  · exact .refl s
  · exact executeOne_driveKept (.refl _)

/-! ## Arrivals -/

theorem handleRow_driveKept (s : State) (f : Frame) (row : Row) : DriveKept s (handleRow s f row) := by
  unfold handleRow
  cases row with
  | stripped | expired => exact .of_drive rfl
  | consumed =>
    dsimp only
    split
    · exact .of_drive (receiveRequest_drive s _ _)
    · exact .of_drive rfl
  | matched i cfg =>
    dsimp only
    split
    · exact (DriveKept.of_drive (forwardFrame_drive s _)).trans (intake_driveKept _ _ _ _)
    · exact intake_driveKept s _ _ _
  | other => exact .of_drive (forwardFrame_drive s _)

theorem arrive_driveKept (s : State) (bytes : List Byte) : DriveKept s (arrive s bytes) := by
  unfold arrive
  repeat' split
  · exact .of_drive rfl
  · exact .of_drive rfl
  · exact .of_drive (forwardFrame_drive _ _)
  · exact (DriveKept.of_drive (goodArrival_drive s)).trans (handleRow_driveKept _ _ _)

/-! ## Resets (R172, R169, R170) and the replay (R174) -/

/-- After a power-on or pin reset the part is in IDLE and no command has been issued. -/
theorem afterReset_driveKept (s : State) (pins : Pins) : DriveKept s (afterReset s pins) := fun _ => by
  have hview : (afterReset s pins).drive = { State.reset.drive with guard := pins.guardLow } := rfl
  refine driveSound_of_halted ?_ ?_ ?_ <;> rw [hview]
  · exact ⟨nofun, nofun⟩
  · nofun
  · nofun

/-- The clearing keeps the drive slot: what waits there was issued by the station reset, or in IDLE (R170). -/
theorem completeReset_driveSound {s : State} (h : s.drive.Halted) (src tag : Nat) :
    (completeReset s src tag).DriveSound := by
  have hview : (completeReset s src tag).drive =
      { s.drive with supervised := none, last := none, resetting := false } := by
    rw [completeReset, enqueueReply_drive, clearWork_eq]
    rfl
  refine driveSound_of_halted ?_ ?_ ?_ <;> rw [hview]
  · exact ⟨nofun, h.slot⟩
  · nofun
  · nofun

theorem safeCommands_driveKept {s : State} {st : Stand} (hst : s.stand = some st) (src tag : Nat) :
    DriveKept s (safeCommands s src tag) := fun h => by
  obtain ⟨hstand, hguard, -, -⟩ := (driveSound_iff s).1 h
  have hview : (safeCommands s src tag).drive = { s.drive with
      last := some (nextDrive s false 0 0 0), slot := some (st.driveNode, nextDrive s false 0 0 0),
      resetting := true } := by
    simp only [safeCommands, State.setRequests_drive, State.setLeak_drive, issueValve_drive, issueDriveNow_drive hst]
    rfl
  refine driveSound_of_halted ?_ ?_ ?_ <;> rw [hview]
  · constructor
    · rintro c ⟨⟩
      exact nextDrive_stop _ _ _ _
    · rintro n c ⟨⟩
      exact nextDrive_stop _ _ _ _
  · exact hstand
  · exact hguard

theorem executeReset_driveKept (s : State) : DriveKept s (executeReset s) := by
  unfold executeReset
  repeat' split
  · exact .refl s
  · refine ((DriveKept.of_drive (dequeue_drive s)).trans ?_).trans (pump_driveKept _)
    unfold beginReset
    split
    · next hst =>
      obtain ⟨st, hst⟩ := Option.isSome_iff_exists.1 hst
      exact safeCommands_driveKept hst _ _
    · next hst =>
      refine fun h => completeReset_driveSound (h.halted (.inr fun hsup => hst ?_)) _ _
      exact ((driveSound_iff _).1 h).stand (by rw [hsup]; rfl)
  · exact .refl s

theorem replayRequest_driveKept (s : State) (q : Request) : DriveKept s (replayRequest s q).1 := by
  unfold replayRequest
  repeat' split
  · exact .refl s
  · exact .refl s
  · exact effectOf_driveKept s _ _ ‹_›

theorem replayRecord_driveKept (s : State) (assembly : Option Assembly) (record : List Byte) :
    DriveKept s (replayRecord s assembly record).1 := by
  unfold replayRecord
  dsimp only
  repeat' split
  · exact .refl s
  · exact .of_drive rfl
  · exact .refl s
  · exact replayRequest_driveKept s _

theorem replayNext_driveKept (s : State) (next : Nat) (record : List Byte) (rest : List (List Byte))
    (assembly : Option Assembly) : DriveKept s (replayNext s next record rest assembly) := by
  refine (replayRecord_driveKept s assembly record).trans (.of_drive ?_)
  unfold replayNext
  dsimp only
  repeat' split
  all_goals rfl

/-! ## Every step -/

theorem whenDue_driveKept {s : State} {due : Bool} {effect : State → State}
    (h : due = true → DriveKept s (effect s)) : DriveKept s (whenDue s due effect) := by
  rcases whenDue_cases s due effect with he | ⟨-, hd, he⟩ <;> rw [he]
  · exact .refl s
  · exact (h hd).trans (pump_driveKept _)

theorem whenDue_driveKept_of_drive {s : State} {due : Bool} {effect : State → State}
    (h : (effect s).drive = s.drive) : DriveKept s (whenDue s due effect) := whenDue_driveKept fun _ => .of_drive h

/-- A timer of a supervised phase finds the run in it. -/
theorem supervised_of_spinDue {s : State} {phase : SpinPhase} {limit : SpinRun → Option Nat}
    (h : s.spinDue phase limit = true) (hs : phase.supervised = true) : s.drive.supervised = some true := by
  obtain ⟨r, hr, hp⟩ := run_of_spinDue h
  exact supervised_of_run hr true (hp ▸ hs)

theorem exec_driveKept {c : Instr} {s t : State} (h : exec c s = .next t) : DriveKept s t := by
  cases hp : pickOf c with
  | some pick =>
    rw [exec_of_pickOf hp] at h
    cases h
    exact executeKind_driveKept s (effectOf_of_pickOf hp)
  | none =>
    cases c with
    | powerOn | pinReset => cases h; exact afterReset_driveKept s _
    | resetEnd straps load asserted =>
      cases h
      split
      · exact (afterReset_driveKept s _).trans (.of_drive (State.setLoader_drive _ _))
      · exact .refl s
    | configImageRead image => cases h; exact whenDue_driveKept_of_drive (imageRead_drive s image)
    | configRecordReplay =>
      simp only [exec, execConfigRecordReplay] at h
      split at h <;> cases h
      · exact whenDue_driveKept fun _ => replayNext_driveKept s _ _ _ _
      · exact .refl s
    | frameArrival bytes => cases h; exact whenDue_driveKept fun _ => arrive_driveKept s bytes
    | fragment => cases h; exact whenDue_driveKept_of_drive (countBad_drive s)
    | transmissionEnd => cases h; exact whenDue_driveKept_of_drive (lineEnds_drive s)
    | ringDownTimeout => cases h; exact whenDue_driveKept_of_drive (ringDown_drive s)
    | staleTimeout entry => cases h; exact whenDue_driveKept fun _ => staleExpires_driveKept s entry
    | guard asserted =>
      cases h
      split
      · exact .refl s
      · exact (DriveKept.of_drive (State.setPins_drive s _)).trans (whenDue_driveKept fun _ => guardEdge_driveKept _ _)
    | assemblyTimeout => cases h; exact whenDue_driveKept_of_drive (assemblyExpires_drive s)
    | rampEnd => cases h; exact whenDue_driveKept fun hd => enterSettle_driveKept (supervised_of_spinDue hd rfl)
    | settleEnd => cases h; exact whenDue_driveKept fun hd => holdEntry_driveKept (supervised_of_spinDue hd rfl)
    | holdEnd => cases h; exact whenDue_driveKept fun hd => endHold_driveKept (supervised_of_spinDue hd rfl)
    | speedPersistExpiry => cases h; exact whenDue_driveKept fun _ => takeOutcome_driveKept s _
    | driveRefresh => cases h; exact whenDue_driveKept fun _ => repeatDrive_driveKept s
    | stopTimeout =>
      simp only [exec, execStopTimeout] at h
      split at h <;> cases h
      · exact .refl s
      · next r hr =>
        exact whenDue_driveKept fun hd => stopTimedOut_driveKept hr ((spinDue_of_run hr _ _).1 hd).1
    | fillTimeout => cases h; exact whenDue_driveKept_of_drive (takeLeakOutcome_drive s _ _)
    | leakSettleEnd => cases h; exact whenDue_driveKept_of_drive (enterMeasure_drive s)
    | measureEnd => cases h; exact whenDue_driveKept_of_drive (endMeasure_drive s)
    | ventTimeout =>
      simp only [exec, execVentTimeout] at h
      split at h <;> cases h
      · exact .refl s
      · exact whenDue_driveKept_of_drive (ventTimedOut_drive s _)
    | valveRefresh => cases h; exact whenDue_driveKept_of_drive (repeatValve_drive s)
    | badRequest => cases h; exact executeBad_driveKept s
    | reset => cases h; exact executeReset_driveKept s
    | stationResetClearing =>
      simp only [exec, execStationResetClearing] at h
      split at h <;> cases h
      · exact .refl s
      · next w hw =>
        have hwait : s.requests.resetWait ≠ none := by rw [(clearingDue_iff.1 hw).1]; simp
        exact whenDue_driveKept fun _ hs => completeReset_driveSound (hs.halted (.inl hwait)) _ _
    | _ => cases hp

theorem idleNext_drive (s : State) : (idleNext s).2.drive = s.drive := by
  unfold idleNext tick
  repeat' split
  all_goals rfl

theorem step_driveKept {s t : State} (h : step s = .next t) : DriveKept s t := by
  have hidle := DriveKept.of_drive (idleNext_drive s)
  unfold step at h
  split at h
  · exact (DriveKept.of_drive (State.setPending_drive s _)).trans (exec_driveKept h)
  · split at h
    · next hn => rw [hn] at hidle; exact hidle.trans (exec_driveKept h)
    · next hn => rw [hn] at hidle; cases h; exact hidle

/-- Settles O58: `step_driveKept` says it of each step, whatever command or event it runs. -/
theorem everyStepKeepsTheDriveSafe : Obligations.EveryStepKeepsTheDriveSafe := fun _ _ hs h => step_driveKept h hs

end Sys2Proof.Machine
end

section
/-! RESET (R169): both safe commands, or the clearing at once. -/
namespace Sys2Proof.Machine

theorem reset_happens {s : State} {q : Request} (h : s.takes q .reset) :
    happens .reset s (beginReset (dequeue s) q.src (tagOf q.head)) := by
  obtain ⟨hq, hform⟩ := h
  unfold happens
  simp only [exec, execReset, executeReset, hq, hform]

/-- A stop command asks for speed 0 with the guard ASSERTED or not (R88). -/
theorem newDrive_stop (r : RunIn) (run : Bool) (ramp : Nat) (torque : Int) : newDrive r run 0 ramp torque =
    { run := run, number := (r.commandNumber + 1) % 256, speed := 0, ramp := ramp, torque := torque } := by
  simp only [newDrive, ite_self]

theorem issueDriveNow_stop {s : State} {st : Stand} (hst : s.stand = some st) (run : Bool) (ramp : Nat)
    (torque : Int) :
    let c : DriveCommand :=
      { run := run, number := (s.runIn.commandNumber + 1) % 256, speed := 0, ramp := ramp, torque := torque }
    issueDriveNow s run 0 ramp torque = { s with
      runIn := { s.runIn with commandNumber := c.number, lastCommand := some c, refreshStart := some s.timeBase },
      arbiter := { s.arbiter with driveSlot := some (st.driveNode, c) } } := by
  rw [issueDriveNow, newDrive_stop, placeDrive_eq, State.driveSlotWith_of_stand (st := st)]
  · rfl
  · exact hst

/-- Both safe commands issued, with the wait for their transmission reports still to begin (R169). -/
theorem safeCommands_issued {s : State} {st : Stand} (hst : s.stand = some st) (hsup : s.leak.suppressed = false) :
    let d : DriveCommand :=
      { run := false, number := (s.runIn.commandNumber + 1) % 256, speed := 0, ramp := 0, torque := 0 }
    let v : ValveCommand := { kind := .vent, number := (s.leak.commandNumber + 1) % 256 }
    issueValve (issueDriveNow s false 0 0 0) .vent = { s with
      runIn := { s.runIn with commandNumber := d.number, lastCommand := some d, refreshStart := some s.timeBase },
      leak := { s.leak with commandNumber := v.number, lastCommand := some .vent, refreshStart := some s.timeBase },
      arbiter := { s.arbiter with driveSlot := some (st.driveNode, d), valveSlot := some (st.valveNode, v) } } := by
  intro d v
  rw [issueDriveNow_stop hst, issueValve_of_free (st := st)]
  · rfl
  · exact hsup
  · exact hst

/-- Settles O21: both safe commands in one state (`safeCommands_issued`), or the clearing at once. -/
theorem resetIssuesItsSafeCommands : Obligations.ResetIssuesItsSafeCommands := by
  refine ⟨fun s q st h hst hsup => ?_, fun s q h hst => ?_⟩
  · have hbegin : beginReset (dequeue s) q.src (tagOf q.head) = safeCommands (dequeue s) q.src (tagOf q.head) :=
      if_pos (Option.isSome_iff_exists.2 ⟨st, hst⟩)
    have happened := reset_happens h
    rw [hbegin, safeCommands, safeCommands_issued (s := dequeue s) hst hsup] at happened
    exact happened
  · have hbegin : beginReset (dequeue s) q.src (tagOf q.head) = completeReset (dequeue s) q.src (tagOf q.head) :=
      if_neg (by simp [dequeue, hst])
    have happened := reset_happens h
    rw [hbegin] at happened
    exact happened

end Sys2Proof.Machine
end

section
/-! Edges of the guard line (R96). -/
namespace Sys2Proof.Machine

theorem exec_guard_of_level {s : State} {level : Bool} (h : level = s.pins.guardLow) :
    exec (.guard level) s = .next s := congrArg Host.Outcome.next (if_pos h)

/-- A change of level in a part that acts is an edge. -/
theorem guard_happens {s : State} (hheld : s.pins.resetHeld = false) (hport : s.ring.port ≠ .bypass) {level : Bool}
    (h : level ≠ s.pins.guardLow) : happens (.guard level) s (guardEdge (setGuardPin s level) level) := by
  have hdue : (s.ring.port != .bypass) = true := by simpa using hport
  have hexec : exec (.guard level) s = .next (whenDue (setGuardPin s level) (s.ring.port != .bypass)
      (fun t => guardEdge t level)) := congrArg Host.Outcome.next (if_neg h)
  exact hexec.trans (congrArg Host.Outcome.next (whenDue_of (s := setGuardPin s level) hheld hdue))

/-- Settles O44: an edge raises and, asserted, times the guard; the abort is then an outcome taken. -/
theorem guardEdgesAreRaisedAndAbort : Obligations.GuardEdgesAreRaisedAndAbort := by
  intro s level hheld hport edge timed
  have hedge (h : level ≠ s.pins.guardLow) := guard_happens hheld hport h
  refine ⟨exec_guard_of_level, fun h hrel => ?_, fun h hass => ?_⟩
  · subst hrel
    exact hedge h
  · subst hass
    have htimed : guardTimed (setGuardPin s true) = timed := by
      have hraised : (guardRaised (setGuardPin s true) true).runIn.run = s.runIn.run := rfl
      simp only [guardTimed, writeGuardTime, hraised, timed]
      cases s.runIn.run with
      | none => rfl
      | some r =>
        refine congrArg edge.setUnits (List.map_congr_left fun u _ => ?_)
        cases hu : u.guardTime <;> simp only [hu] <;> rfl
    have hrun : timed.runIn.run = s.runIn.run := by rw [← htimed, guardTimed_eq]; rfl
    have hstand : timed.stand = s.stand := by rw [← htimed, guardTimed_eq]; rfl
    have haborts : guardEdge (setGuardPin s true) true = takeOutcome timed (.aborted .guard) := by
      rw [guardEdge_asserted, htimed]
    rw [haborts] at hedge
    refine ⟨fun hnone => ?_, fun r st hr hs hst => ⟨_, ?_, hedge h⟩⟩
    · rw [takeOutcome_of_unsupervised (hrun ▸ hnone)] at hedge
      exact hedge h
    · exact takeOutcome_taken (hrun.trans hr) hs (hstand.trans hst) _

end Sys2Proof.Machine
end

section
/-! Supervision (R90 to R92), and the outcomes of ABORT_SPIN and of a speed error that persists (R92, R95). -/
namespace Sys2Proof.Machine

/-! ## Published values (R90, R91) -/

/-- A value recorded: `f` in the record at BAY_A, and the run as it is then. -/
def State.recorded (s : State) (f : UnitRecord → UnitRecord) (r : SpinRun) : State :=
  { s with units := s.units.map (fun u => if u.position = .bayA then f u else u),
           runIn := { s.runIn with run := some r } }

/-- An outcome taken once a value is recorded. -/
theorem recorded_taken {s : State} {r : SpinRun} {st : Stand} (hs : r.phase.supervised = true)
    (hst : s.stand = some st) (f : UnitRecord → UnitRecord) (o : RuninOutcome) :
    OutcomeTaken (s.recorded f r) st r o (takeOutcome (s.recorded f r) o) := by
  have hrun : (s.recorded f r).runIn.run = some r := rfl
  have hstand : (s.recorded f r).stand = some st := hst
  exact takeOutcome_taken hrun hs hstand o

theorem updateUnit_recorded {s : State} {r : SpinRun} (hr : s.runIn.run = some r) (f : UnitRecord → UnitRecord) :
    updateUnit s .bayA f = s.recorded f r := by
  unfold State.recorded
  rw [← hr]
  rfl

theorem updateRun_recorded {s : State} {r : SpinRun} (hr : s.runIn.run = some r) (f : UnitRecord → UnitRecord)
    (g : SpinRun → SpinRun) : updateRun (updateUnit s .bayA f) g = s.recorded f (g r) := by
  rw [updateRun_of_run (r := r)]
  · rfl
  · exact hr

theorem maxNatOpt_eq (old : Option Nat) (x : Nat) :
    maxNatOpt old x = some (match old with | some m => max m x | none => x) := by cases old <;> rfl

theorem maxOpt_eq (old : Option Int) (x : Int) :
    maxOpt old x = some (match old with | some m => max m x | none => x) := by cases old <;> rfl

theorem minOpt_eq (old : Option Int) (x : Int) :
    minOpt old x = some (match old with | some m => min m x | none => x) := by cases old <;> rfl

/-- The run with one more torque in the accumulators of its HOLD. -/
def SpinRun.tookTorque (r : SpinRun) (x : Int) : SpinRun :=
  if r.phase = .hold then
    { r with acc := { r.acc with
        torqueSum := r.acc.torqueSum + x, torqueCount := r.acc.torqueCount + 1,
        maxTorque := maxNatOpt r.acc.maxTorque x.natAbs } }
  else r

/-- The run with one more oil temperature in the accumulators of its HOLD. -/
def SpinRun.tookOil (r : SpinRun) (x : Int) : SpinRun :=
  if r.phase = .hold then { r with acc := { r.acc with maxOil := maxOpt r.acc.maxOil x } } else r

@[simp] theorem SpinRun.tookTorque_phase (r : SpinRun) (x : Int) : (r.tookTorque x).phase = r.phase := by
  unfold SpinRun.tookTorque; split <;> rfl

@[simp] theorem SpinRun.tookOil_phase (r : SpinRun) (x : Int) : (r.tookOil x).phase = r.phase := by
  unfold SpinRun.tookOil; split <;> rfl

theorem takeTorque_eq {s : State} {r : SpinRun} {seg : Segment} (hr : s.runIn.run = some r)
    (hseg : r.profile[r.segment]? = some seg) (x : Int) :
    let taken := s.recorded (fun u => takeMaxTorque u x) (r.tookTorque x)
    takeTorque s r x = if seg.torqueLimit < x.natAbs then takeOutcome taken (.fail .torque) else taken := by
  intro taken
  have htaken : (if r.phase = .hold then
      updateRun (updateUnit s .bayA (fun u => takeMaxTorque u x))
        (fun r => { r with acc := { r.acc with
          torqueSum := r.acc.torqueSum + x, torqueCount := r.acc.torqueCount + 1,
          maxTorque := maxNatOpt r.acc.maxTorque x.natAbs } })
      else updateUnit s .bayA (fun u => takeMaxTorque u x)) = taken := by
    simp only [taken, SpinRun.tookTorque]
    split
    · exact updateRun_recorded hr _ _
    · exact updateUnit_recorded hr _
  simp only [takeTorque, SpinRun.current, hseg, htaken]

theorem takeOil_eq {s : State} {r : SpinRun} (hr : s.runIn.run = some r) (x : Int) :
    let taken := s.recorded (fun u => { u with maxOil := maxOpt u.maxOil x }) (r.tookOil x)
    takeOil s r x = if r.variant.oilLimit < x then takeOutcome taken (.fail .oilTemp) else taken := by
  intro taken
  have htaken : (if r.phase = .hold then
      updateRun (updateUnit s .bayA (fun u => { u with maxOil := maxOpt u.maxOil x }))
        (fun r => { r with acc := { r.acc with maxOil := maxOpt r.acc.maxOil x } })
      else updateUnit s .bayA (fun u => { u with maxOil := maxOpt u.maxOil x })) = taken := by
    simp only [taken, SpinRun.tookOil]
    split
    · exact updateRun_recorded hr _ _
    · exact updateUnit_recorded hr _
  simp only [takeOil, htaken]

theorem runInValue_of_torque {s : State} {r : SpinRun} {p : Published} (hr : s.runIn.run = some r)
    (hs : r.phase.supervised = true) (hc : p.channel = r.torqueChannel) :
    runInValue s p = takeTorque s r p.value := by
  simp only [runInValue, hr, hs, hc, if_true]

theorem runInValue_of_oil {s : State} {r : SpinRun} {p : Published} (hr : s.runIn.run = some r)
    (hs : r.phase.supervised = true) (hc : p.channel = r.oilChannel) (hn : p.channel ≠ r.torqueChannel) :
    runInValue s p = takeOil s r p.value := by
  simp only [runInValue, hr, hs, if_neg hn, if_pos hc, if_true]

theorem runInValue_of_other {s : State} {p : Published} (h : ∀ r, s.runIn.run = some r →
    r.phase.supervised = false ∨ (p.channel ≠ r.torqueChannel ∧ p.channel ≠ r.oilChannel)) : runInValue s p = s := by
  unfold runInValue
  split
  · rfl
  · next r hr =>
    rcases h r hr with hs | ⟨ht, ho⟩
    · rw [if_neg (by simp [hs])]
    · rw [if_neg ht, if_neg ho, ite_self]

/-! ## Shaft speeds (R90, R92) -/

theorem runInSpeed_of_hold {s : State} {r : SpinRun} (hr : s.runIn.run = some r) (hp : r.phase = .hold)
    (speed : Option Int) :
    runInSpeed s speed = s.setRunIn { s.runIn with run := some (r.speed speed s.timeBase) } := by
  simp only [runInSpeed, hr, if_pos hp, updateRun]

theorem runInSpeed_of_other {s : State} (h : ∀ r, s.runIn.run = some r → r.phase ≠ .hold) (speed : Option Int) :
    runInSpeed s speed = s := by
  unfold runInSpeed
  split
  · rfl
  · next r hr => exact if_neg (h r hr)

/-- What a published speed does to a HOLD: the extremes taken, and a speed error that starts, goes on or ends. -/
theorem SpinRun.speed_some {r : SpinRun} {seg : Segment} (hseg : r.profile[r.segment]? = some seg) (v : Int)
    (now : Time) :
    let allowed := max 20 (r.variant.speedTolerance * seg.target.natAbs / 1000)
    r.speed (some v) now = { r with
      acc := { r.acc with minSpeed := minOpt r.acc.minSpeed v, maxSpeed := maxOpt r.acc.maxSpeed v },
      errorStart := if allowed < (v - seg.target).natAbs then some (r.errorStart.getD now) else none } := by
  simp only [SpinRun.speed, SpinRun.current, hseg, allowedError]

/-! ## A speed error that persists (R92) -/

theorem persistDue_iff (s : State) : s.persistDue = true ↔ ∃ r start, s.runIn.run = some r ∧
    r.errorStart = some start ∧ r.phase = .hold ∧ r.variant.speedPersist ≤ elapsed s.timeBase start := by
  unfold State.persistDue
  cases hr : s.runIn.run with
  | none => simp
  | some r => cases he : r.errorStart <;> simp [he]

/-- Settles O43: the outcome is `takeOutcome_taken`; each value is first recorded, and then judged. -/
theorem anOutcomeStopsTheRunIn : Obligations.AnOutcomeStopsTheRunIn := by
  refine ⟨fun s o => ⟨fun st r hr hst hs => takeOutcome_taken hr hs hst o,
      fun h => takeOutcome_of_unsupervised h o⟩,
    fun s p => ⟨runInValue_of_other, fun r st seg hr hst hs hseg => ?_⟩,
    fun s speed => ⟨fun h => runInSpeed_of_other h speed, fun r seg hr hp hseg => ?_⟩,
    fun s => ⟨fun hr => ?_, fun r hr => ?_⟩,
    fun s q st r h hst hr hs => ?_, fun s q r h hr hs => ?_, fun s q h hr => ?_,
    fun s st r start hheld hst hr hp he hdue => ?_, fun s h => ?_⟩
  · intro recorded
    refine ⟨fun hc => ?_, fun hc hn => ?_⟩
    · intro a r' taken
      have hr' : r' = r.tookTorque p.value := by
        simp only [r', SpinRun.tookTorque, maxNatOpt_eq]; rfl
      have htaken : taken = s.recorded (fun u => takeMaxTorque u p.value) (r.tookTorque p.value) := by
        simp only [taken, recorded, hr', takeMaxTorque, maxNatOpt_eq]; rfl
      rw [runInValue_of_torque hr hs hc, takeTorque_eq hr hseg, htaken, hr']
      refine ⟨fun hle => if_neg (Nat.not_lt.2 hle), fun hlt => ?_⟩
      rw [if_pos hlt]
      exact recorded_taken (by rwa [SpinRun.tookTorque_phase]) hst _ _
    · intro larger r' taken
      have hlarger : larger = fun old => maxOpt old p.value := funext fun old => (maxOpt_eq old p.value).symm
      have htaken : taken = s.recorded (fun u => { u with maxOil := maxOpt u.maxOil p.value }) (r.tookOil p.value) := by
        simp only [taken, recorded, r', hlarger]; rfl
      have hr' : r' = r.tookOil p.value := by simp only [r', hlarger]; rfl
      rw [runInValue_of_oil hr hs hc hn, takeOil_eq hr, htaken, hr']
      refine ⟨fun hle => if_neg (Int.not_lt.2 hle), fun hlt => ?_⟩
      rw [if_pos hlt]
      exact recorded_taken (by rwa [SpinRun.tookOil_phase]) hst _ _
  · rw [runInSpeed_of_hold hr hp]
    cases speed with
    | none => rfl
    | some v =>
      rw [SpinRun.speed_some hseg, minOpt_eq, maxOpt_eq]
      cases he : r.errorStart <;> rfl
  · simp only [runInLostLock, updateRun, hr]
  · simp only [runInLostLock, updateRun, hr]
  · have hrun : (dequeue s).runIn.run = some r := hr
    refine ⟨_, takeOutcome_taken hrun hs hst (.aborted .request), answers_of_effect h rfl rfl ?_⟩
    simp only [abortSpin, hrun]
    rfl
  · have hrun : (dequeue s).runIn.run = some r := hr
    have hnot : takeOutcome (dequeue s) (.aborted .request) = dequeue s :=
      takeOutcome_of_unsupervised (fun q hq => by cases hrun.symm.trans hq; exact hs) _
    refine answers_of_effect h rfl rfl ?_
    simp only [abortSpin, hrun, hnot]
    rfl
  · have hrun : (dequeue s).runIn.run = none := hr
    refine answers_of_effect h rfl rfl ?_
    simp only [abortSpin, hrun]
    rfl
  · exact ⟨_, takeOutcome_taken hr (by rw [hp]; rfl) hst (.fail .speed), happens_of_whenDue
      (c := .speedPersistExpiry) rfl hheld ((persistDue_iff s).2 ⟨r, start, hr, he, hp, hdue⟩)⟩
  · refine congrArg Host.Outcome.next (whenDue_of_not_due ?_ _)
    rw [Bool.eq_false_iff, ne_eq, persistDue_iff]
    rintro ⟨r, start, hr, he, hp, hle⟩
    rcases h r start hr he with hne | hlt
    · exact hne hp
    · omega

end Sys2Proof.Machine
end

section
/-! The ends of RAMP, SETTLE and HOLD (R85 to R87), and the window that HOLD opens (R103 to R105). -/
namespace Sys2Proof.Machine

/-! ## The timers (R85, R87) -/

theorem rampDue_iff {s : State} {r : SpinRun} {seg : Segment} (hr : s.runIn.run = some r)
    (hseg : r.profile[r.segment]? = some seg) :
    s.rampDue = true ↔ r.phase = .ramp ∧ seg.ramp ≤ elapsed s.timeBase r.phaseStart := by
  simp [State.rampDue, spinDue_of_run hr, SpinRun.current, hseg]

theorem settleDue_iff {s : State} {r : SpinRun} {seg : Segment} (hr : s.runIn.run = some r)
    (hseg : r.profile[r.segment]? = some seg) :
    s.settleDue = true ↔ r.phase = .settle ∧ seg.settle ≤ elapsed s.timeBase r.phaseStart := by
  simp [State.settleDue, spinDue_of_run hr, SpinRun.current, hseg]

theorem holdDue_iff {s : State} {r : SpinRun} {seg : Segment} (hr : s.runIn.run = some r)
    (hseg : r.profile[r.segment]? = some seg) :
    s.holdDue = true ↔ r.phase = .hold ∧ seg.hold ≤ elapsed s.timeBase r.phaseStart := by
  simp [State.holdDue, spinDue_of_run hr, SpinRun.current, hseg]

/-- A timer of a phase that is over, or still running, is not due, and its event does not come about. -/
theorem whenDue_of_early {s : State} {due : Bool} {p : Prop} {n e : Nat} (h : due = true ↔ p ∧ n ≤ e)
    (hnot : ¬p ∨ e < n) (effect : State → State) : whenDue s due effect = s := by
  refine whenDue_of_not_due ?_ effect
  rw [Bool.eq_false_iff, ne_eq, h]
  rintro ⟨hp, hle⟩
  exact hnot.elim (fun hn => hn hp) (fun hlt => by omega)

/-! ## The effects (R85 to R87) -/

theorem enterSettle_of_run {s : State} {r : SpinRun} {seg : Segment} (hr : s.runIn.run = some r)
    (hseg : r.profile[r.segment]? = some seg) :
    let settling := s.setRunIn { s.runIn with run := some { r with phase := .settle, phaseStart := s.timeBase } }
    enterSettle s = if seg.settle = 0 then holdEntry settling else settling := by
  simp only [enterSettle, hr, SpinRun.current, hseg, updateRun]

/-- HOLD as it is entered, with the Order Engine's answer (R86). -/
def State.held (s : State) (r : SpinRun) (e : Engine) (unavailable : Bool) : State :=
  (s.setEngine e).setRunIn { s.runIn with
    run := some { r with
      phase := .hold, phaseStart := s.timeBase, acc := HoldAcc.cleared, errorStart := none,
      unavailable := unavailable } }

theorem holdEntry_of_locked {s : State} {r : SpinRun} {seg : Segment} {t : Track} (hr : s.runIn.run = some r)
    (hseg : r.profile[r.segment]? = some seg) (hlock : s.angle.state = .locked t) {e : Engine} {unavailable : Bool}
    (hopen : openWindow s r.segment seg.slot = (unavailable, s.setEngine e)) :
    holdEntry s = s.held r e unavailable := by
  simp only [holdEntry, hr, hlock, SpinRun.current, hseg, Option.bind_some, hopen]
  exact updateRun_of_run (s := s.setEngine e) hr _

theorem holdEntry_of_unlocked {s : State} {r : SpinRun} (hr : s.runIn.run = some r)
    (h : ∀ t, s.angle.state ≠ .locked t) : holdEntry s = takeOutcome s (.aborted .angle) := by
  simp only [holdEntry, hr]

/-- The end of HOLD, up to what follows it: the window closed and the summary appended (R87). -/
def State.summed (s : State) (r : SpinRun) : State :=
  updateUnit (closeWindow s).2 .bayA (fun u => { u with summaries := u.summaries ++ [summaryOf r (closeWindow s).1] })

theorem endHold_of_run {s : State} {r : SpinRun} (hr : s.runIn.run = some r) : endHold s =
    if r.segment + 1 < r.profile.length then beginSegment (s.summed r) (r.segment + 1)
    else takeOutcome (s.summed r) .pass := by
  simp only [endHold, hr, State.summed]

/-! ## The window (R104, R105) -/

/-- WHEEL rounds half up: the order value is the whole number nearest the quotient. -/
theorem orderValue_wheel_nearest {v : Variant} {e : OrderEntry} (h : e.base = .wheel) (hz : 0 < v.ringTeeth) :
    v.ringTeeth * (2 * orderValue v e) ≤ 2 * (e.harmonic * v.pinionTeeth * 65536) + v.ringTeeth ∧
      2 * (e.harmonic * v.pinionTeeth * 65536) < v.ringTeeth * (2 * orderValue v e + 1) := by
  simp only [orderValue, h]
  generalize e.harmonic * v.pinionTeeth * 65536 = m
  have hdiv := Nat.div_add_mod (m * 2 + v.ringTeeth) (2 * v.ringTeeth)
  have hmod := Nat.mod_lt (m * 2 + v.ringTeeth) (show 0 < 2 * v.ringTeeth by omega)
  generalize (m * 2 + v.ringTeeth) / (2 * v.ringTeeth) = q at *
  generalize (m * 2 + v.ringTeeth) % (2 * v.ringTeeth) = t at *
  rw [Nat.mul_add, show v.ringTeeth * (2 * q) = 2 * v.ringTeeth * q by ring]
  constructor <;> omega

theorem channelEntry_eq_or (s : State) (c : Nat) : channelEntry s c = .included ∨ channelEntry s c = .excluded := by
  unfold channelEntry
  dsimp only
  repeat' split
  all_goals simp

theorem channelEntry_included_iff (s : State) (c : Nat) : channelEntry s c = .included ↔
    (∃ ch cfg, s.channels[c]? = some ch ∧ ch.config = some cfg ∧ ch.acquire = true ∧
      (∀ kind, ch.status ≠ .fault kind) ∧ (cfg.role = .vibration ∨ cfg.role = .sound)) ∧
    ∃ i stream, s.angleSource = some i ∧ s.enabledStream i = some stream ∧ some c ∈ stream.binding := by
  unfold channelEntry
  cases hch : s.channels[c]? with
  | none => simp
  | some ch =>
    cases hcfg : ch.config with
    | none => simp [hcfg]
    | some cfg =>
      cases hsource : s.angleSource with
      | none => simp [hcfg]
      | some i =>
        cases hstream : s.enabledStream i with
        | none => simp [hcfg, hstream]
        | some stream => cases hstatus : ch.status <;> grind [StreamConfig.binds_iff]

/-- Settles O45: each timer by its condition, each effect by what it is in its phase. -/
theorem phasesEndInOrder : Obligations.PhasesEndInOrder := by
  refine ⟨fun s r seg hheld hr hseg => ?_, fun s r seg t hr hseg hlock => ?_, fun v e => ?_,
    fun s c => ⟨channelEntry_eq_or s c, channelEntry_included_iff s c⟩, fun s r st hr hp hst hlock => ?_⟩
  · intro settling
    have hramp := rampDue_iff hr hseg
    have hsettle := settleDue_iff hr hseg
    have hhold := holdDue_iff hr hseg
    refine ⟨fun hp hle => ?_, fun hp hle => ?_, fun hp hle => ?_, fun h => ?_, fun h => ?_, fun h => ?_⟩
    · have hhappens := happens_of_whenDue (c := .rampEnd) rfl hheld (hramp.2 ⟨hp, hle⟩)
      rwa [enterSettle_of_run hr hseg] at hhappens
    · exact happens_of_whenDue (c := .settleEnd) rfl hheld (hsettle.2 ⟨hp, hle⟩)
    · intro closed summary s1
      have hs1 : s.summed r = s1 := rfl
      have hhappens := happens_of_whenDue (c := .holdEnd) rfl hheld (hhold.2 ⟨hp, hle⟩)
      rw [endHold_of_run hr, hs1] at hhappens
      refine ⟨fun hmore => ?_, fun st hst hlast => ?_⟩
      · rwa [if_pos hmore] at hhappens
      · rw [if_neg (Nat.not_lt.2 hlast)] at hhappens
        have hrun : s1.runIn.run = some r := (congrArg RunIn.run (closeWindow_frame s).2.2.2.1).trans hr
        have hstand : s1.stand = some st := (closeWindow_jobStep s).stand.trans hst
        exact ⟨_, takeOutcome_taken hrun (by rw [hp]; rfl) hstand .pass, hhappens⟩
    · exact congrArg Host.Outcome.next (whenDue_of_early hramp h _)
    · exact congrArg Host.Outcome.next (whenDue_of_early hsettle h _)
    · exact congrArg Host.Outcome.next (whenDue_of_early hhold h _)
  · intro held
    refine ⟨fun hslot => ?_, fun n hslot hset => ?_, fun n set v hslot hset hv => ?_⟩
    · refine holdEntry_of_locked hr hseg hlock ?_
      rw [hslot]; rfl
    · refine holdEntry_of_locked hr hseg hlock ?_
      simp only [openWindow, hslot, hset]
    · refine holdEntry_of_locked hr hseg hlock ?_
      simp only [openWindow, hslot, hset, hv]
      rfl
  · refine ⟨fun h => ?_, fun h => ?_, fun h => ?_, orderValue_wheel_nearest, fun h => ?_⟩ <;> simp only [orderValue, h]
  · rw [holdEntry_of_unlocked hr hlock]
    refine takeOutcome_taken hr ?_ hst _
    rcases hp with hp | hp <;> rw [hp] <;> rfl

end Sys2Proof.Machine
end

section
/-! The end of STOPPING in standstill or FAULTED (R98, R99, R119), CLEAR_FAULT A (R100) and the drive refresh (R89). -/
namespace Sys2Proof.Machine

/-! ## The shared operations leave what they do not name -/

theorem issueDrive_frame (s : State) (run : Bool) (speed : Int) (ramp : Nat) (torque : Int) :
    let t := issueDrive s run speed ramp torque
    t.units = s.units ∧ t.engine = s.engine ∧ t.notices = s.notices ∧
      t.runIn.outcomeSegment = s.runIn.outcomeSegment := by
  unfold issueDrive issueDriveNow placeDrive
  dsimp only
  repeat' split
  all_goals exact ⟨rfl, rfl, rfl, rfl⟩

/-- What a drive command says and leaves depends neither on the Unit List, the engine nor the notices (R88). -/
theorem issueDrive_issued_beside {s : State} {st : Stand} (hst : s.stand = some st) (units : List UnitRecord)
    (engine : Engine) (notices : Notices) (run : Bool) (speed : Int) (ramp : Nat) (torque : Int) :
    driveIssued s (issueDrive { s with units := units, engine := engine, notices := notices } run speed ramp torque) st
      (nextDrive s run speed ramp torque) :=
  issueDrive_issued (s := { s with units := units, engine := engine, notices := notices }) hst run speed ramp torque

theorem State.serialAt_of_units {s t : State} (h : t.units = s.units) (p : Position) :
    t.serialAt p = s.serialAt p := by
  simp only [State.serialAt, State.unitAt, h]

theorem raiseRunin_eq {s t : State} {r : SpinRun} {o : RuninOutcome} (hp : r.pending = some o) (src : Source)
    (hn : t.notices = s.notices) (hserial : t.serialAt .bayA = s.serialAt .bayA) :
    raiseRunin t src r =
      { t with notices := (raise s src (some .a) (s.serialAt .bayA) (.runin o)).notices } := by
  simp only [raiseRunin, hp, raise, hn, hserial]
  rfl

/-! ## The outcome written (R98, R99, R119) -/

/-- The record at BAY_A and the engine once the run's outcome stands in the record: written now, or before (R99). -/
def State.outcomeSettled (s : State) (r : SpinRun) (timedOut : Bool) : State :=
  if r.written then s else writeRunin s r timedOut

/-- What the write of an outcome leaves: the record at BAY_A with the outcome and its noise result, the engine's run
record cleared; and nothing the second time (R98, R99, R119). -/
def OutcomeWritten (s : State) (r : SpinRun) (o : RuninOutcome) (timedOut : Bool) (u : State) : Prop :=
  if r.written then u.units = s.units ∧ u.engine = s.engine
  else
    u.units = s.units.map (fun x => if x.position = .bayA then
      { x with runin := .done o, endSegment := s.runIn.outcomeSegment, stopTimeout := some timedOut,
               noise := if r.profile.all (fun seg => seg.slot.isNone) then .notRun
                 else if s.engine.failSeen then .fail
                 else if s.engine.noResultSeen ∨ s.engine.unavailableSeen ∨ o ≠ .pass then .noResult
                 else .pass } else x) ∧
    u.engine = { s.engine with failSeen := false, noResultSeen := false, unavailableSeen := false }

theorem noiseResult_outcome (e : Engine) (profile : List Segment) (o : RuninOutcome) :
    noiseResult e profile (o = .pass) =
      if profile.all (fun seg => seg.slot.isNone) then .notRun
      else if e.failSeen then .fail
      else if e.noResultSeen ∨ e.unavailableSeen ∨ o ≠ .pass then .noResult
      else .pass := by
  simp [noiseResult, or_assoc]

/-- Two writes at one position are one. -/
theorem updateUnit_updateUnit (s : State) (p : Position) {f g : UnitRecord → UnitRecord}
    (h : ∀ u, (f u).position = u.position) : updateUnit (updateUnit s p f) p g = updateUnit s p (g ∘ f) := by
  simp only [updateUnit, State.setUnits_units, List.map_map]
  refine congrArg s.setUnits (List.map_congr_left fun u _ => ?_)
  by_cases hu : u.position = p <;> simp [hu, h]

theorem writeRunin_eq {s : State} {r : SpinRun} {o : RuninOutcome} (hp : r.pending = some o) (timedOut : Bool) :
    writeRunin s r timedOut =
      (updateUnit s .bayA (fun u => { u with
        runin := .done o, endSegment := s.runIn.outcomeSegment, stopTimeout := some timedOut,
        noise := noiseResult s.engine r.profile (o = .pass) })).setEngine
      { s.engine with failSeen := false, noResultSeen := false, unavailableSeen := false } := by
  simp only [writeRunin, hp, settleNoise]
  rw [updateUnit_updateUnit]
  · rfl
  · exact fun _ => rfl

theorem outcomeSettled_written {s : State} {r : SpinRun} {o : RuninOutcome} (hp : r.pending = some o)
    (timedOut : Bool) : OutcomeWritten s r o timedOut (s.outcomeSettled r timedOut) := by
  unfold OutcomeWritten State.outcomeSettled
  split
  · exact ⟨rfl, rfl⟩
  · rw [writeRunin_eq hp, noiseResult_outcome]
    exact ⟨rfl, rfl⟩

theorem outcomeSettled_frame (s : State) (r : SpinRun) (timedOut : Bool) :
    let w := s.outcomeSettled r timedOut
    w = { s with units := w.units, engine := w.engine } := by
  unfold State.outcomeSettled writeRunin
  dsimp only
  repeat' split
  all_goals rfl

theorem outcomeSettled_serialAt {s : State} {r : SpinRun} {o : RuninOutcome} (hp : r.pending = some o)
    (timedOut : Bool) (p : Position) : (s.outcomeSettled r timedOut).serialAt p = s.serialAt p := by
  unfold State.outcomeSettled
  split
  · rfl
  · rw [writeRunin_eq hp]
    exact updateUnit_serialAt s .bayA p fun _ => ⟨rfl, rfl⟩

/-! ## Standstill and the stop timeout (R98, R99) -/

/-- What the end of a stop leaves beside the run itself: the final command, the outcome and the notice (R98, R99). -/
structure StopEnded (s : State) (st : Stand) (r : SpinRun) (o : RuninOutcome) (timedOut : Bool) (src : Source)
    (u : State) : Prop where
  segment : u.runIn.outcomeSegment = s.runIn.outcomeSegment
  command : driveIssued s u st (nextDrive s false 0 0 0)
  written : OutcomeWritten s r o timedOut u
  notices : u.notices = (raise s src (some .a) (s.serialAt .bayA) (.runin o)).notices

theorem OutcomeWritten.of_eq {s : State} {r : SpinRun} {o : RuninOutcome} {timedOut : Bool} {t u : State}
    (h : OutcomeWritten s r o timedOut t) (hunits : u.units = t.units) (hengine : u.engine = t.engine) :
    OutcomeWritten s r o timedOut u := by
  unfold OutcomeWritten
  rwa [hunits, hengine]

theorem endStopping_ended {s : State} {st : Stand} {r : SpinRun} {o : RuninOutcome} (hst : s.stand = some st)
    (hp : r.pending = some o) : StopEnded s st r o false .runinEnd (endStopping s r) := by
  have hframe := outcomeSettled_frame s r false
  have hwritten := outcomeSettled_written (s := s) hp false
  have hserial := outcomeSettled_serialAt (s := s) hp false .bayA
  have hend : endStopping s r =
      let d := issueDrive (raiseRunin (s.outcomeSettled r false) .runinEnd r) false 0 0 0
      d.setRunIn { d.runIn with run := none } := rfl
  rw [hend, raiseRunin_eq hp _ (by rw [hframe]) hserial]
  generalize s.outcomeSettled r false = w at *
  have hraised (n : Notices) :
      { w with notices := n } = { s with units := w.units, engine := w.engine, notices := n } :=
    congrArg (fun x : State => { x with notices := n }) hframe
  rw [hraised]
  obtain ⟨hunits, hengine, hnotices, hsegment⟩ := issueDrive_frame { s with
    units := w.units, engine := w.engine,
    notices := (raise s .runinEnd (some .a) (s.serialAt .bayA) (.runin o)).notices } false 0 0 0
  exact {
    segment := hsegment
    command := issueDrive_issued_beside hst _ _ _ _ _ _ _
    written := hwritten.of_eq hunits hengine
    notices := hnotices }

theorem runInStandstill_of_standstill {s : State} {r : SpinRun} (hr : s.runIn.run = some r)
    (hphase : r.phase = .stopping) (hle : 100 ≤ elapsed s.timeBase r.phaseStart) (hstill : s.angle.standstill = true) :
    runInStandstill s = endStopping s r := by
  simp only [runInStandstill, hr]
  exact if_pos ⟨hphase, hle, hstill⟩

theorem runInStandstill_of_early {s : State} (h : (∀ r, s.runIn.run = some r → r.phase ≠ .stopping ∨
    elapsed s.timeBase r.phaseStart < 100) ∨ s.angle.standstill = false) : runInStandstill s = s := by
  unfold runInStandstill
  split
  · rfl
  · next r hr =>
    refine if_neg fun ⟨hphase, hle, hstill⟩ => ?_
    rcases h with h | h
    · exact (h r hr).elim (fun hn => hn hphase) (fun hlt => by omega)
    · simp [h] at hstill

/-- The stop timeout up to the notice and FAULTED: the outcome settled and the final command issued (R99). -/
def State.finallyStopped (s : State) (r : SpinRun) : State := issueDrive (s.outcomeSettled r true) false 0 0 0

theorem finallyStopped_frame {s : State} {r : SpinRun} {o : RuninOutcome} (hp : r.pending = some o) :
    let d := s.finallyStopped r
    OutcomeWritten s r o true d ∧ d.notices = s.notices ∧ d.serialAt .bayA = s.serialAt .bayA ∧
      d.runIn.outcomeSegment = s.runIn.outcomeSegment ∧ d.runIn.run = s.runIn.run := by
  have hframe := outcomeSettled_frame s r true
  obtain ⟨hunits, hengine, hnotices, hsegment⟩ := issueDrive_frame (s.outcomeSettled r true) false 0 0 0
  exact ⟨(outcomeSettled_written hp true).of_eq hunits hengine, hnotices.trans (by rw [hframe]),
    (State.serialAt_of_units hunits _).trans (outcomeSettled_serialAt hp true _), hsegment.trans (by rw [hframe]),
    (issueDrive_run _ _ _ _ _).trans (by rw [hframe])⟩

theorem finallyStopped_issued {s : State} {st : Stand} (hst : s.stand = some st) (r : SpinRun) :
    driveIssued s (s.finallyStopped r) st (nextDrive s false 0 0 0) := by
  rw [State.finallyStopped, outcomeSettled_frame s r true]
  exact issueDrive_issued_beside hst _ _ s.notices _ _ _ _

/-- FAULTED, as the stop timeout leaves it (R99). -/
theorem stopTimedOut_eq {s : State} {r : SpinRun} {o : RuninOutcome} (hr : s.runIn.run = some r)
    (hp : r.pending = some o) :
    let d := s.finallyStopped r
    stopTimedOut s r = { d with
      notices := (raise s .stopTimeout (some .a) (s.serialAt .bayA) (.runin o)).notices,
      runIn := { d.runIn with run := some { r with written := true, phase := .faulted } } } := by
  obtain ⟨-, hnotices, hserial, -, hrun⟩ := finallyStopped_frame (s := s) hp
  have hstop : stopTimedOut s r = updateRun (raiseRunin (s.finallyStopped r) .stopTimeout r)
    (fun r => { r with written := true, phase := .faulted }) := rfl
  rw [hstop, raiseRunin_eq hp .stopTimeout hnotices hserial, updateRun_of_run (r := r)]
  · rfl
  · exact hrun.trans hr

theorem stopTimedOut_ended {s : State} {st : Stand} {r : SpinRun} {o : RuninOutcome} (hr : s.runIn.run = some r)
    (hst : s.stand = some st) (hp : r.pending = some o) :
    StopEnded s st r o true .stopTimeout (stopTimedOut s r) := by
  obtain ⟨hwritten, -, -, hsegment, -⟩ := finallyStopped_frame (s := s) hp
  rw [stopTimedOut_eq hr hp]
  exact {
    segment := hsegment
    command := finallyStopped_issued hst r
    written := hwritten.of_eq rfl rfl
    notices := rfl }

theorem exec_stopTimeout_of_run {s : State} {r : SpinRun} (hr : s.runIn.run = some r) :
    exec .stopTimeout s = .next (whenDue s s.stopDue (fun s => stopTimedOut s r)) := by
  simp only [exec, execStopTimeout, hr]

theorem stopDue_iff {s : State} {r : SpinRun} (hr : s.runIn.run = some r) :
    s.stopDue = true ↔ r.phase = .stopping ∧ r.stand.stopTimeout ≤ elapsed s.timeBase r.phaseStart := by
  simp [State.stopDue, spinDue_of_run hr]

/-! ## The refresh (R89) -/

theorem driveRefreshDue_iff (s : State) : s.driveRefreshDue = true ↔
    ∃ r start, s.runIn.run = some r ∧ s.runIn.refreshStart = some start ∧ r.phase ≠ .faulted ∧
      s.requests.resetWait = none ∧ r.stand.refresh ≤ elapsed s.timeBase start := by
  unfold State.driveRefreshDue State.driveHeldBack
  cases s.runIn.run <;> cases s.runIn.refreshStart <;> simp [and_assoc]

theorem repeatDrive_of_free {s : State} {st : Stand} {c : DriveCommand} (hw : s.requests.resetWait = none)
    (hst : s.stand = some st) (hc : s.runIn.lastCommand = some c) :
    repeatDrive s = { s with
      runIn := { s.runIn with refreshStart := some s.timeBase },
      arbiter := { s.arbiter with driveSlot := some (st.driveNode, c) } } := by
  have hfree : ¬s.driveHeldBack = true := by simp [State.driveHeldBack, hw]
  rw [repeatDrive, if_neg hfree, hc]
  dsimp only
  rw [placeDrive_eq, State.driveSlotWith_of_stand (st := st)]
  · rfl
  · exact hst

/-! ## CLEAR_FAULT A (R100) -/

theorem clearFaultA_of_faulted {s : State} {r : SpinRun} {st : Stand} (hr : s.runIn.run = some r)
    (hphase : r.phase = .faulted) (hst : s.stand = some st) (hw : s.requests.resetWait = none) :
    let c := nextDrive s true 0 r.stand.stopRamp 0
    clearFaultA s = accept { s with
      runIn := { s.runIn with run := some { r with phase := .stopping, phaseStart := s.timeBase },
                              commandNumber := c.number, lastCommand := some c, refreshStart := some s.timeBase },
      arbiter := { s.arbiter with driveSlot := some (st.driveNode, c) } } := by
  simp only [clearFaultA, hr, hphase, if_true]
  rw [updateRun_of_run hr, issueDrive_of_free, State.driveSlotWith_of_stand (st := st)]
  · rfl
  · exact hst
  · exact hw

theorem clearFaultA_of_not_faulted {s : State} (h : ∀ r, s.runIn.run = some r → r.phase ≠ .faulted) :
    clearFaultA s = refuse s .notActive := by
  unfold clearFaultA
  split
  · rfl
  · next r hr => exact if_neg (h r hr)

/-- Settles O46: the two ends of STOPPING by what they leave (`StopEnded`), the rest by their exact next states. -/
theorem stoppingEndsOrFaults : Obligations.StoppingEndsOrFaults := by
  refine ⟨fun s r st o hr hst hp hphase hle hstill => ?_, fun s h => runInStandstill_of_early h,
    fun s r st o hheld hr hst hp hphase hle => ?_, fun s h => ?_, fun s q r st h hr hphase hst => ?_,
    fun s q h hnot => ?_, fun s r st c start hheld hr hst hc hstart hphase hw hle => ?_, fun s h => ?_⟩
  · intro u
    have hu : u = endStopping s r := runInStandstill_of_standstill hr hphase hle hstill
    obtain ⟨hsegment, hcommand, hwritten, hnotices⟩ := endStopping_ended (r := r) hst hp
    rw [hu]
    exact ⟨endStopping_jobStep s r, rfl, hsegment, hcommand, hwritten, hnotices⟩
  · have hhappens := happens_of_whenDue (exec_stopTimeout_of_run hr) hheld ((stopDue_iff hr).2 ⟨hphase, hle⟩)
    obtain ⟨hsegment, hcommand, hwritten, hnotices⟩ := stopTimedOut_ended hr hst hp
    refine ⟨_, hhappens, stopTimedOut_jobStep s r, ?_, hsegment, hcommand, hwritten, hnotices⟩
    rw [stopTimedOut_eq hr hp]
  · cases hr : s.runIn.run with
    | none => simp only [exec, execStopTimeout, hr]
    | some r =>
      rw [exec_stopTimeout_of_run hr]
      exact congrArg Host.Outcome.next (whenDue_of_early (stopDue_iff hr) (h r hr) _)
  · exact answers_of_effect h rfl rfl
      (clearFaultA_of_faulted (s := dequeue s) hr hphase hst (resetWait_of_oldest (s := s) h.1))
  · exact answers_of_effect h rfl rfl (clearFaultA_of_not_faulted (s := dequeue s) hnot)
  · have hdue := (driveRefreshDue_iff s).2 ⟨r, start, hr, hstart, hphase, hw, hle⟩
    have hhappens := happens_of_whenDue (c := .driveRefresh) rfl hheld hdue
    rwa [repeatDrive_of_free hw hst hc] at hhappens
  · have hearly : s.driveRefreshDue = false := by
      rw [Bool.eq_false_iff, ne_eq, driveRefreshDue_iff]
      rintro ⟨r, start, hr, hstart, hphase, hw, hle⟩
      rcases h r start hr hstart with hf | hreset | hlt
      · exact hphase hf
      · exact hreset hw
      · omega
    exact congrArg Host.Outcome.next (whenDue_of_not_due hearly _)

end Sys2Proof.Machine
end

section
/-! What the Leak Sequencer's shared operations do, said once: the test changed, its timers, the outcome written and the
notice raised (R127 to R137). -/
namespace Sys2Proof.Machine

theorem updateTest_of_run {s : State} {r : LeakRun} (h : s.leak.run = some r) (f : LeakRun → LeakRun) :
    updateTest s f = s.setLeak { s.leak with run := some (f r) } := by simp only [updateTest, h]

/-- A timer of the leak test is due in its phase alone (R127 to R129, R131, R137). -/
theorem leakDue_iff (s : State) (phase : LeakPhase) (limit : LeakRun → Nat) : s.leakDue phase limit = true ↔
    ∃ r, s.leak.run = some r ∧ r.phase = phase ∧ limit r ≤ elapsed s.timeBase r.phaseStart := by
  unfold State.leakDue
  cases s.leak.run <;> simp

/-- The Unit List once the test's outcome stands in the record at BAY_B: written now, or before (R136, R137). -/
def State.leakSettled (s : State) (r : LeakRun) : State := if r.written then s else writeLeak s r

/-- The write of an outcome touches the Unit List alone. -/
theorem leakSettled_eq (s : State) (r : LeakRun) : s.leakSettled r = s.setUnits (s.leakSettled r).units := by
  unfold State.leakSettled writeLeak
  repeat' split
  all_goals rfl

theorem leakSettled_jobStep (s : State) (r : LeakRun) : JobStep s (s.leakSettled r) :=
  jobStep_ite (.refl s) (writeLeak_jobStep s r)

@[simp] theorem leakSettled_leak (s : State) (r : LeakRun) : (s.leakSettled r).leak = s.leak := by
  rw [leakSettled_eq]; rfl

@[simp] theorem raiseLeak_leak (s : State) (src : Source) (r : LeakRun) : (raiseLeak s src r).leak = s.leak := by
  unfold raiseLeak; split <;> rfl

end Sys2Proof.Machine
end

section
/-! What `State.ValveSound` speaks of, and the operations that leave it alone: one lemma per operation, beside its
`JobStep` of Laws/Jobs.lean. -/
namespace Sys2Proof.Machine

/-- What `State.ValveSound` speaks of: the phase of the leak test (absent in IDLE), whether valve commands are
suppressed, kind and number of the newest one, the one waiting in the slot, whether a station reset is in progress,
whether the Configuration Loader is loading, and whether a stand record is loaded. -/
structure ValveView where
  phase : Option LeakPhase
  suppressed : Bool
  last : Option ValveKind
  number : Nat
  slot : Option (Nat × ValveCommand)
  resetting : Bool
  loading : Bool
  stand : Bool

def State.valve (s : State) : ValveView :=
  { phase := s.leak.run.map LeakRun.phase, suppressed := s.leak.suppressed, last := s.leak.lastCommand,
    number := s.leak.commandNumber, slot := s.arbiter.valveSlot, resetting := s.requests.resetWait.isSome,
    loading := s.loader.loading, stand := s.stand.isSome }

/-- An operation of the jobs that leaves the Leak Sequencer and the valve slot alone. -/
theorem JobStep.valve {s t : State} (h : JobStep s t) (hleak : t.leak = s.leak)
    (hslot : t.arbiter.valveSlot = s.arbiter.valveSlot) : t.valve = s.valve := by
  simp only [State.valve, hleak, hslot, h.requests, h.loader, h.stand]

/-! ## The updates -/

@[simp] theorem State.setPins_valve (s : State) (x : Pins) : (s.setPins x).valve = s.valve := rfl
@[simp] theorem State.setAngle_valve (s : State) (x : Angle) : (s.setAngle x).valve = s.valve := rfl
@[simp] theorem State.setRunIn_valve (s : State) (x : RunIn) : (s.setRunIn x).valve = s.valve := rfl
@[simp] theorem State.setFreeCount_valve (s : State) (x : Nat) : (s.setFreeCount x).valve = s.valve := rfl
@[simp] theorem State.setPending_valve (s : State) (x : List Instr) : (s.setPending x).valve = s.valve := rfl

@[simp] theorem raise_valve (s : State) (src : Source) (bay : Option Bay) (serial : Option Serial) (d : Detail) :
    (raise s src bay serial d).valve = s.valve := rfl

@[simp] theorem updateUnit_valve (s : State) (p : Position) (f : UnitRecord → UnitRecord) :
    (updateUnit s p f).valve = s.valve := rfl

@[simp] theorem updateChannel_valve (s : State) (c : Nat) (f : Channel → Channel) :
    (updateChannel s c f).valve = s.valve := rfl

@[simp] theorem updateStream_valve (s : State) (i : Nat) (f : StreamEntry → StreamEntry) :
    (updateStream s i f).valve = s.valve := rfl

@[simp] theorem updateStreamRun_valve (s : State) (i : Nat) (f : StreamRun → StreamRun) :
    (updateStreamRun s i f).valve = s.valve := rfl

@[simp] theorem updateSlot_valve (s : State) (n : Nat) (f : OrderSlot → OrderSlot) :
    (updateSlot s n f).valve = s.valve := by
  unfold updateSlot; split <;> rfl

@[simp] theorem setStats_valve (s : State) (slot : Nat) (x : Stats) : (setStats s slot x).valve = s.valve := by
  unfold setStats; split <;> rfl

@[simp] theorem dequeue_valve (s : State) : (dequeue s).valve = s.valve := rfl

@[simp] theorem enqueueReply_valve (s : State) (r : Reply) : (enqueueReply s r).valve = s.valve := rfl

/-! ## The Order Engine -/

@[simp] theorem openWindow_valve (s : State) (g : Nat) (slot : Option Nat) :
    (openWindow s g slot).2.valve = s.valve := by
  unfold openWindow; repeat' split
  all_goals rfl

@[simp] theorem withWindow_valve (s : State) (f : Window → OrderSet → Nat → Window) :
    (withWindow s f).valve = s.valve := by
  unfold withWindow; repeat' split
  all_goals rfl

@[simp] theorem engineBreak_valve (s : State) : (engineBreak s).valve = s.valve := by
  unfold engineBreak; split <;> rfl

@[simp] theorem engineWithdraw_valve (s : State) (c : Nat) : (engineWithdraw s c).valve = s.valve := by
  unfold engineWithdraw; split <;> rfl

@[simp] theorem closeWindow_valve (s : State) : (closeWindow s).2.valve = s.valve := by
  obtain ⟨-, -, hleak, -, harb, -⟩ := closeWindow_frame s
  exact (closeWindow_jobStep s).valve hleak (congrArg Arbiter.valveSlot harb)

/-! ## The Run-in Sequencer -/

@[simp] theorem updateRun_valve (s : State) (f : SpinRun → SpinRun) : (updateRun s f).valve = s.valve := by
  unfold updateRun; split <;> rfl

/-- A drive command placed leaves the valve slot alone (R162). -/
@[simp] theorem placeDrive_valve (s : State) (c : DriveCommand) : (placeDrive s c).valve = s.valve := by
  unfold placeDrive; split <;> rfl

@[simp] theorem issueDriveNow_valve (s : State) (run : Bool) (speed : Int) (ramp : Nat) (torque : Int) :
    (issueDriveNow s run speed ramp torque).valve = s.valve := by simp [issueDriveNow]

@[simp] theorem issueDrive_valve (s : State) (run : Bool) (speed : Int) (ramp : Nat) (torque : Int) :
    (issueDrive s run speed ramp torque).valve = s.valve := by
  unfold issueDrive; split <;> simp

@[simp] theorem repeatDrive_valve (s : State) : (repeatDrive s).valve = s.valve := by
  unfold repeatDrive; (repeat' split) <;> simp

@[simp] theorem enterStopping_valve (s : State) : (enterStopping s).valve = s.valve := by
  unfold enterStopping; split <;> simp

@[simp] theorem takeOutcome_valve (s : State) (o : RuninOutcome) : (takeOutcome s o).valve = s.valve := by
  unfold takeOutcome; dsimp only; (repeat' split) <;> simp

@[simp] theorem holdEntry_valve (s : State) : (holdEntry s).valve = s.valve := by
  unfold holdEntry; (repeat' split) <;> simp

@[simp] theorem enterSettle_valve (s : State) : (enterSettle s).valve = s.valve := by
  unfold enterSettle; (repeat' split) <;> simp

@[simp] theorem beginSegment_valve (s : State) (i : Nat) : (beginSegment s i).valve = s.valve := by
  unfold beginSegment; dsimp only; (repeat' split) <;> simp

@[simp] theorem endHold_valve (s : State) : (endHold s).valve = s.valve := by
  unfold endHold; dsimp only; (repeat' split) <;> simp

@[simp] theorem runInValue_valve (s : State) (p : Published) : (runInValue s p).valve = s.valve := by
  unfold runInValue takeTorque takeOil; dsimp only; (repeat' split) <;> simp

@[simp] theorem runInSpeed_valve (s : State) (v : Option Int) : (runInSpeed s v).valve = s.valve := by
  unfold runInSpeed; (repeat' split) <;> simp

@[simp] theorem runInLostLock_valve (s : State) : (runInLostLock s).valve = s.valve := updateRun_valve _ _

@[simp] theorem runInStale_valve (s : State) (i : Nat) (cfg : StreamConfig) : (runInStale s i cfg).valve = s.valve := by
  unfold runInStale; (repeat' split) <;> simp

@[simp] theorem runInChannelLost_valve (s : State) (c : Nat) : (runInChannelLost s c).valve = s.valve := by
  unfold runInChannelLost; split <;> simp

@[simp] theorem writeRunin_valve (s : State) (r : SpinRun) (timedOut : Bool) :
    (writeRunin s r timedOut).valve = s.valve := by
  unfold writeRunin; split <;> rfl

@[simp] theorem raiseRunin_valve (s : State) (src : Source) (r : SpinRun) : (raiseRunin s src r).valve = s.valve := by
  unfold raiseRunin; split <;> rfl

@[simp] theorem runInStandstill_valve (s : State) : (runInStandstill s).valve = s.valve := by
  unfold runInStandstill endStopping; dsimp only; (repeat' split) <;> simp

@[simp] theorem stopTimedOut_valve (s : State) (r : SpinRun) : (stopTimedOut s r).valve = s.valve := by
  unfold stopTimedOut; dsimp only; split <;> simp

@[simp] theorem writeGuardTime_valve (s : State) : (writeGuardTime s).valve = s.valve := by
  unfold writeGuardTime; split <;> rfl

@[simp] theorem guardEdge_valve (s : State) (asserted : Bool) : (guardEdge s asserted).valve = s.valve := by
  unfold guardEdge; dsimp only; split <;> simp

/-! ## The Angle Unit and the streams' other jobs -/

@[simp] theorem finishSet_valve (s : State) (st : Stand) (fs : Nat) (t : Track) (turn : Turn) (pos : Pos)
    (filled : Bool) (values : List Published) : (finishSet s st fs t turn pos filled values).valve = s.valve := by
  unfold finishSet; dsimp only; (repeat' split) <;> simp [engineRecord, engineBoundary]

@[simp] theorem followSet_valve (s : State) (st : Stand) (fs : Nat) (pos : Pos) (capture : Option Pos) (filled : Bool)
    (values : List Published) : (followSet s st fs pos capture filled values).valve = s.valve := by
  unfold followSet angleFaults; dsimp only; (repeat' split) <;> simp

@[simp] theorem angleSet_valve (s : State) (pos : Pos) (capture : Option Pos) (filled : Bool)
    (values : List Published) : (angleSet s pos capture filled values).valve = s.valve := by
  unfold angleSet; split <;> simp

@[simp] theorem loseReference_valve (s : State) : (loseReference s).valve = s.valve := by
  unfold loseReference; split <;> simp

@[simp] theorem clearHistory_valve (s : State) : (clearHistory s).valve = s.valve := rfl

@[simp] theorem gapEvent_valve (s : State) (i : Nat) : (gapEvent s i).valve = s.valve := by
  unfold gapEvent; split <;> simp

@[simp] theorem channelsGone_valve (s : State) (bs : List (Option Nat)) : (channelsGone s bs).valve = s.valve := by
  rw [channelsGone_eq]; rfl

@[simp] theorem angleGone_valve (s : State) (i : Nat) : (angleGone s i).valve = s.valve := by
  unfold angleGone; split <;> simp

@[simp] theorem spinGone_valve (s : State) (i : Nat) (cfg : StreamConfig) : (spinGone s i cfg).valve = s.valve := by
  unfold spinGone sourceGone; dsimp only; (repeat' split) <;> simp

/-! ## The Request Unit, the ring and the Configuration Loader -/

@[simp] theorem enqueueRequest_valve (s : State) (q : Request) : (enqueueRequest s q).valve = s.valve := by
  unfold enqueueRequest; split <;> rfl

@[simp] theorem receiveRequest_valve (s : State) (src : Nat) (payload : List Byte) :
    (receiveRequest s src payload).valve = s.valve := by
  have hqueued (qs : List Request) (t : State) : (qs.foldl enqueueRequest t).valve = t.valve := by
    induction qs generalizing t with
    | nil => rfl
    | cons q qs ih => simp [ih]
  exact hqueued _ _

@[simp] theorem assemblyExpires_valve (s : State) : (assemblyExpires s).valve = s.valve := by
  unfold assemblyExpires
  split
  · rfl
  · exact enqueueRequest_valve _ _

@[simp] theorem forwardFrame_valve (s : State) (frame : List Byte) : (forwardFrame s frame).valve = s.valve := by
  unfold forwardFrame; repeat' split
  all_goals rfl

@[simp] theorem goodArrival_valve (s : State) : (goodArrival s).valve = s.valve := by
  unfold goodArrival; dsimp only; split <;> rfl

/-- A safe command reported transmitted leaves the station reset in progress (R170). -/
@[simp] theorem reportTransmitted_valve (s : State) (o : Origin) : (reportTransmitted s o).valve = s.valve := by
  cases o with
  | transit | notice => rfl
  | drive n | valve n => simp [reportTransmitted, reportCommand, State.valve]
  | reply => simp only [reportTransmitted, reportReply]; (repeat' split) <;> rfl
  | report number segment => simp only [reportTransmitted, reportSegment]; (repeat' split) <;> rfl

@[simp] theorem lineEnds_valve (s : State) : (lineEnds s).valve = s.valve := by
  unfold lineEnds
  split
  · rfl
  · exact reportTransmitted_valve _ _

end Sys2Proof.Machine
end

section
/-! The requests that leave alone what `State.ValveSound` speaks of. -/
namespace Sys2Proof.Machine

theorem bindTables_valve (z : Sizes) (s : State) : (bindTables z s).1.valve = s.valve := by
  unfold bindTables; repeat' split
  all_goals rfl

theorem loadVariant_valve (slot : Nat) (record : Option Variant) (s : State) :
    (loadVariant slot record s).1.valve = s.valve := by
  unfold loadVariant; repeat' split
  all_goals rfl

theorem loadProfile_valve (p : Nat) (segments : Option (List Segment)) (s : State) :
    (loadProfile p segments s).1.valve = s.valve := by
  unfold loadProfile; repeat' split
  all_goals rfl

theorem loadOrderSet_valve (slot : Nat) (set : Option OrderSet) (s : State) :
    (loadOrderSet slot set s).1.valve = s.valve := by
  unfold loadOrderSet; (repeat' split) <;> simp

theorem swapOrderSet_valve (slot : Nat) (s : State) : (swapOrderSet slot s).1.valve = s.valve := by
  unfold swapOrderSet; (repeat' split) <;> simp [carryOutSwap]

theorem onStats_valve (slot : Nat) (f : Stats → Stats) (s : State) : (onStats slot f s).1.valve = s.valve := by
  unfold onStats; (repeat' split) <;> simp

theorem setNotice_valve (settings : Option NoticeSettings) (s : State) :
    (setNotice settings s).1.valve = s.valve := by
  unfold setNotice; split <;> rfl

theorem clearNotice_valve (sources : BitVec 16) (s : State) : (clearNotice sources s).1.valve = s.valve := by
  unfold clearNotice; split <;> rfl

theorem loadChannel_valve (c : Nat) (cfg : Option ChannelConfig) (s : State) :
    (loadChannel c cfg s).1.valve = s.valve := by
  unfold loadChannel; repeat' split
  all_goals rfl

theorem clearChannel_valve (c : Nat) (s : State) : (clearChannel c s).1.valve = s.valve := by
  unfold clearChannel; split <;> rfl

theorem clearAngle_valve (s : State) : (clearAngle s).1.valve = s.valve := by
  unfold clearAngle; split <;> rfl

theorem admitUnit_valve (serial : Serial) (variant : Nat) (s : State) :
    (admitUnit serial variant s).1.valve = s.valve := by
  unfold admitUnit; repeat' split
  all_goals rfl

theorem advanceA_valve (s : State) : (advanceA s).1.valve = s.valve := by
  unfold advanceA; repeat' split
  all_goals rfl

theorem advanceB_valve (s : State) : (advanceB s).1.valve = s.valve := by
  unfold advanceB; repeat' split
  all_goals rfl

/-- A record closed with its report: the Report Queue, the Unit List and the notices. -/
theorem closed_valve (s : State) (u : UnitRecord) (bay : Option Bay) (v : Verdict) (basis required : Checks) :
    (removeUnit (formReport s u v basis required) u bay v).valve = s.valve := rfl

theorem releaseStats_valve (s : State) (u : UnitRecord) (v : Verdict) : (releaseStats s u v).valve = s.valve := by
  unfold releaseStats; dsimp only; (repeat' split) <;> simp

theorem release_valve (s : State) : (release s).1.valve = s.valve := by
  unfold release; dsimp only; (repeat' split) <;> simp [closed_valve, releaseStats_valve]

theorem withdraw_valve (serial : Serial) (s : State) : (withdraw serial s).1.valve = s.valve := by
  unfold withdraw; repeat' split
  all_goals rfl

theorem startSpin_valve (s : State) : (startSpin s).1.valve = s.valve := by
  unfold startSpin; dsimp only; split <;> simp

theorem abortSpin_valve (s : State) : (abortSpin s).1.valve = s.valve := by
  unfold abortSpin; split <;> simp

theorem clearFaultA_valve (s : State) : (clearFaultA s).1.valve = s.valve := by
  unfold clearFaultA; (repeat' split) <;> simp

theorem angleFieldsChange_valve (s : State) (new : Stand) : (angleFieldsChange s new).valve = s.valve := by
  unfold angleFieldsChange; dsimp only; (repeat' split) <;> simp

end Sys2Proof.Machine
end

section
/-! The valve commands (R124, R125): which phase allows which command, and what issuing one does to the newest command
and the slot. -/
namespace Sys2Proof.Machine

/-! ## What `State.ValveSound` asks of the view -/

/-- The phases in which a command may be the newest: FILL in FILL, ISOLATE in SETTLE and MEASURE, VENT in any and in
IDLE (R124). -/
def ValveKind.AllowedIn : ValveKind → Option LeakPhase → Prop
  | .fill, phase => phase = some .fill
  | .isolate, phase => phase = some .settle ∨ phase = some .measure
  | .vent, _ => True

structure ValveView.Sound (v : ValveView) : Prop where
  stand : v.phase.isSome = true → v.stand = true
  noStand : v.stand = false → v.last = none
  suppressed : v.suppressed = v.resetting
  reset : v.resetting = true → v.loading = false ∧ v.last = some .vent
  last : ∀ kind, v.last = some kind → kind.AllowedIn v.phase
  slot : ∀ n c, v.slot = some (n, c) → v.last = some c.kind ∧ c.number = v.number

theorem valveSound_iff (s : State) : s.ValveSound ↔ s.valve.Sound := by
  have hrun : s.leak.run.isSome = s.valve.phase.isSome := by simp [State.valve]
  have hstand : s.stand = none ↔ s.valve.stand = false := by simp [State.valve]
  have hfill : (∃ r, s.leak.run = some r ∧ r.phase = .fill) ↔ s.valve.phase = some .fill := by simp [State.valve]
  have hisolate : (∃ r, s.leak.run = some r ∧ (r.phase = .settle ∨ r.phase = .measure)) ↔
      s.valve.phase = some .settle ∨ s.valve.phase = some .measure := by
    simp [State.valve, and_or_left, exists_or]
  constructor
  · rintro ⟨h1, h2, h3, h4, h5, h6, h7⟩
    refine ⟨hrun ▸ h1, fun hn => h2 (hstand.2 hn), h3, h4, fun kind hk => ?_, h7⟩
    cases kind with
    | fill => exact hfill.1 (h5 hk)
    | isolate => exact hisolate.1 (h6 hk)
    | vent => trivial
  · rintro ⟨h1, h2, h3, h4, h5, h6⟩
    exact ⟨hrun ▸ h1, fun hn => h2 (hstand.1 hn), h3, h4, fun hk => hfill.2 (h5 _ hk),
      fun hk => hisolate.2 (h5 _ hk), h6⟩

/-- Outside IDLE there is a stand record. -/
theorem ValveView.Sound.stand_of_run {s : State} (h : s.valve.Sound) {r : LeakRun} (hr : s.leak.run = some r) :
    ∃ st, s.stand = some st :=
  Option.isSome_iff_exists.1 (h.stand (by simp [State.valve, hr]))

/-! ## Changes of the view -/

section
variable {v : ValveView} (h : v.Sound)
include h

/-- Where the newest command is VENT, or there is none, it allows every phase. -/
theorem ValveView.Sound.withPhase {phase : Option LeakPhase}
    (hstand : phase.isSome = true → v.stand = true) (hlast : ∀ kind, v.last = some kind → kind.AllowedIn phase) :
    { v with phase := phase }.Sound := ⟨hstand, h.noStand, h.suppressed, h.reset, hlast, h.slot⟩

/-- SETTLE becomes MEASURE: ISOLATE remains the newest command (R129). -/
theorem ValveView.Sound.measure (hp : v.phase = some .settle) : { v with phase := some .measure }.Sound := by
  refine h.withPhase (fun _ => h.stand (by rw [hp]; rfl)) fun kind hk => ?_
  have hallowed := h.last kind hk
  rw [hp] at hallowed
  cases kind with
  | fill => cases hallowed
  | isolate => exact .inr rfl
  | vent => trivial

/-- The Configuration Loader moves only where no station reset is in progress (R175). -/
theorem ValveView.Sound.withLoading (hw : v.resetting = false) (loading : Bool) :
    { v with loading := loading }.Sound :=
  ⟨h.stand, h.noStand, h.suppressed, fun hr => absurd hr (by simp [hw]), h.last, h.slot⟩

theorem ValveView.Sound.withStand : { v with stand := true }.Sound :=
  ⟨fun _ => rfl, nofun, h.suppressed, h.reset, h.last, h.slot⟩

theorem ValveView.Sound.emptied : { v with slot := none }.Sound :=
  ⟨h.stand, h.noStand, h.suppressed, h.reset, h.last, nofun⟩

/-- The clearing of a station reset ends the suppression and keeps the command that is still to be sent (R170). -/
theorem ValveView.Sound.cleared (hlast : ∀ kind, v.last = some kind → kind = .vent) :
    { v with phase := none, suppressed := false, resetting := false }.Sound :=
  ⟨nofun, h.noStand, rfl, nofun, fun kind hk => by rw [hlast kind hk]; trivial, h.slot⟩

end

/-! ## Commands issued -/

/-- What a command of the given kind to the given node leaves behind, and nothing while suppressed (R124, R139). -/
def ValveView.issued (v : ValveView) (node : Nat) (kind : ValveKind) : ValveView :=
  if v.suppressed then v
  else { v with last := some kind, number := (v.number + 1) % 256,
                slot := some (node, { kind := kind, number := (v.number + 1) % 256 }) }

theorem ValveView.issued_of_suppressed {v : ValveView} (h : v.suppressed = true) (node : Nat) (kind : ValveKind) :
    v.issued node kind = v := if_pos h

theorem ValveView.issued_of_free {v : ValveView} (h : v.suppressed = false) (node : Nat) (kind : ValveKind) :
    v.issued node kind = { v with
      last := some kind, number := (v.number + 1) % 256,
      slot := some (node, { kind := kind, number := (v.number + 1) % 256 }) } := if_neg (by simp [h])

theorem issueValve_valve {s : State} {st : Stand} (hst : s.stand = some st) (kind : ValveKind) :
    (issueValve s kind).valve = s.valve.issued st.valveNode kind := by
  by_cases hsup : s.leak.suppressed = true
  · rw [issueValve_of_suppressed hsup, ValveView.issued_of_suppressed hsup]
  · rw [Bool.not_eq_true] at hsup
    rw [issueValve_of_free hsup hst, ValveView.issued_of_free hsup]
    rfl

/-- Issuing a command and moving to a phase go in either order. -/
theorem ValveView.issued_withPhase (v : ValveView) (node : Nat) (kind : ValveKind) (phase : Option LeakPhase) :
    { v.issued node kind with phase := phase } = { v with phase := phase }.issued node kind := by
  unfold ValveView.issued
  split <;> rfl

/-- A command issued with the move to a phase that allows it; while suppressed the newest command is the station reset's
VENT, which every phase allows. -/
theorem ValveView.Sound.issued {v : ValveView} (h : v.Sound) (hst : v.stand = true) {kind : ValveKind}
    {phase : Option LeakPhase} (hk : kind.AllowedIn phase) (node : Nat) :
    ({ v with phase := phase }.issued node kind).Sound := by
  by_cases hsup : v.suppressed = true
  · obtain ⟨-, hvent⟩ := h.reset (h.suppressed ▸ hsup)
    rw [ValveView.issued_of_suppressed (v := { v with phase := phase }) hsup]
    refine h.withPhase (fun _ => hst) fun other hother => ?_
    cases hvent.symm.trans hother
    trivial
  · rw [Bool.not_eq_true] at hsup
    have hw : v.resetting = false := h.suppressed ▸ hsup
    rw [ValveView.issued_of_free (v := { v with phase := phase }) hsup]
    refine ⟨fun _ => hst, fun hn => absurd (hn.symm.trans hst) nofun, h.suppressed,
      fun hr => absurd (hw.symm.trans hr) nofun, ?_, ?_⟩
    · rintro _ ⟨⟩
      exact hk
    · rintro _ _ ⟨⟩
      exact ⟨rfl, rfl⟩

/-! ## What every step keeps -/

/-- From `s` to `t` the valves stay safe. -/
def ValveKept (s t : State) : Prop := s.valve.Sound → t.valve.Sound

theorem ValveKept.refl (s : State) : ValveKept s s := id

theorem ValveKept.trans {s t u : State} (h : ValveKept s t) (k : ValveKept t u) : ValveKept s u := k ∘ h

theorem ValveKept.ite {p : Prop} [Decidable p] {s a b : State} (ha : ValveKept s a) (hb : ValveKept s b) :
    ValveKept s (if p then a else b) := by split <;> assumption

theorem ValveKept.of_valve {s t : State} (h : t.valve = s.valve) : ValveKept s t := fun hs => h ▸ hs

/-- The idle line empties the valve slot at most. -/
theorem pump_valve (s : State) : (pump s).valve = s.valve ∨ (pump s).valve = { s.valve with slot := none } := by
  unfold pump
  repeat' split
  · exact .inl rfl
  · exact .inl rfl
  · exact .inl rfl
  · exact .inl rfl
  · next o _ =>
    cases o with
    | drive | reply | report => exact .inl rfl
    | valve => exact .inr rfl
    | notice src => exact .inl (by simp only [insertOffer]; split <;> rfl)

theorem pump_valveKept (s : State) : ValveKept s (pump s) := fun h => by
  rcases pump_valve s with hs | hs <;> rw [hs]
  exacts [h, h.emptied]

end Sys2Proof.Machine
end

section
/-! What the Leak Sequencer does to the valves (R123 to R138), and what the streams and channels make it do (R134). -/
namespace Sys2Proof.Machine

/-! ## The phases -/

section
variable {s : State} {r : LeakRun} (hr : s.leak.run = some r)
include hr

/-- A phase entered, and then the command that belongs to it. -/
theorem issueValve_valveKept {t : State} {phase : Option LeakPhase} (ht : t.valve = { s.valve with phase := phase })
    (hstand : t.stand = s.stand) {kind : ValveKind} (hk : kind.AllowedIn phase) : ValveKept s (issueValve t kind) :=
  fun h => by
    obtain ⟨st, hst⟩ := h.stand_of_run hr
    rw [issueValve_valve (hstand.trans hst), ht]
    exact h.issued (by simp [State.valve, hst]) hk _

/-- A command, and then the phase that it belongs to. -/
theorem valveKept_of_issued {t u : State} {phase : Option LeakPhase} (ht : t.valve = s.valve)
    (hstand : t.stand = s.stand) {kind : ValveKind} (hk : kind.AllowedIn phase)
    (hu : u.valve = { (issueValve t kind).valve with phase := phase }) : ValveKept s u := fun h => by
  obtain ⟨st, hst⟩ := h.stand_of_run hr
  rw [hu, issueValve_valve (hstand.trans hst), ht, ValveView.issued_withPhase]
  exact h.issued (by simp [State.valve, hst]) hk _

theorem updateTest_valve (f : LeakRun → LeakRun) :
    (updateTest s f).valve = { s.valve with phase := some (f r).phase } := by rw [updateTest_of_run hr]; rfl

theorem enterMeasure_valve : (enterMeasure s).valve = { s.valve with phase := some .measure } := by
  simp only [enterMeasure, hr]; rfl

theorem enterLeakSettle_valveKept : ValveKept s (enterLeakSettle s) := by
  have hissued : ValveKept s (issueValve (enterPhase s .settle) .isolate) :=
    issueValve_valveKept hr (phase := some .settle) (updateTest_valve hr _) (updateTest_jobStep s _).stand (.inl rfl)
  have hrun : (issueValve (enterPhase s .settle) .isolate).leak.run =
      some { r with phase := .settle, phaseStart := s.timeBase } := by
    rw [issueValve_run, enterPhase, updateTest_of_run hr]; rfl
  simp only [enterLeakSettle, hr]
  refine .ite (hissued.trans fun h => ?_) hissued
  rw [enterMeasure_valve hrun]
  exact h.measure (congrArg (Option.map LeakRun.phase) hrun)

end

/-- An outcome taken in FILL, SETTLE or MEASURE vents (R134). -/
theorem takeLeakOutcome_valveKept (s : State) (o : LeakOutcome) (result : Option LeakResult) :
    ValveKept s (takeLeakOutcome s o result) := by
  by_cases hrun : ∃ r, s.leak.run = some r ∧ r.phase.testing = true
  · obtain ⟨r, hr, ht⟩ := hrun
    rw [takeLeakOutcome_of_testing hr ht]
    refine issueValve_valveKept hr (phase := some .vent) (kind := .vent) ?_ ?_ trivial <;> rfl
  · rw [takeLeakOutcome_of_not_testing (by simpa using hrun)]
    exact .refl s

theorem endMeasure_valveKept (s : State) : ValveKept s (endMeasure s) := by
  unfold endMeasure
  split
  · exact .ite (takeLeakOutcome_valveKept s _ _) (takeLeakOutcome_valveKept s _ _)
  · exact .refl s

/-! ## VENT (R136 to R138) -/

@[simp] theorem leakSettled_valve (s : State) (r : LeakRun) : (s.leakSettled r).valve = s.valve := by
  rw [leakSettled_eq]; rfl

@[simp] theorem raiseLeak_valve (s : State) (src : Source) (r : LeakRun) : (raiseLeak s src r).valve = s.valve := by
  unfold raiseLeak; split <;> rfl

/-- The return to IDLE after the last VENT (R136). -/
theorem endVent_valveKept {s : State} {r : LeakRun} (hr : s.leak.run = some r) : ValveKept s (endVent s r) := by
  have hjob : JobStep s (raiseLeak (s.leakSettled r) .leakEnd r) :=
    (leakSettled_jobStep s r).trans (raiseLeak_jobStep _ _ _)
  exact valveKept_of_issued hr (t := raiseLeak (s.leakSettled r) .leakEnd r) (phase := none) (kind := .vent)
    (by simp) hjob.stand trivial rfl

/-- FAULTED with one more VENT (R137). -/
theorem ventTimedOut_valveKept {s : State} {r : LeakRun} (hr : s.leak.run = some r) :
    ValveKept s (ventTimedOut s r) := by
  have hrun : (raiseLeak (issueValve (s.leakSettled r) .vent) .ventTimeout r).leak.run = some r := by simp [hr]
  refine valveKept_of_issued hr (t := s.leakSettled r) (phase := some .faulted) (kind := .vent)
    (by simp) (leakSettled_jobStep s r).stand trivial ?_
  exact (updateTest_valve hrun _).trans (by rw [raiseLeak_valve])

/-- A pressure judged by the phase it finds (R126 to R130, R136). -/
theorem takePressure_valveKept {s : State} {r : LeakRun} (hr : s.leak.run = some r) (x : Int) :
    ValveKept s (takePressure s r x) := by
  unfold takePressure
  dsimp only
  split
  case h_1 =>
    exact .ite (takeLeakOutcome_valveKept s _ _) (.ite (enterLeakSettle_valveKept hr) (.refl s))
  case h_2 => exact .ite (takeLeakOutcome_valveKept s _ _) (.refl s)
  case h_3 => exact .of_valve (by simp [State.valve, hr, LeakRun.measured])
  case h_4 => exact .ite (endVent_valveKept hr) (.refl s)
  case h_5 => exact .refl s

theorem leakValue_valveKept (s : State) (p : Published) : ValveKept s (leakValue s p) := by
  unfold leakValue
  split
  · exact .refl s
  · next hr => exact .ite (takePressure_valveKept hr _) (.refl s)

theorem leakStale_valveKept (s : State) (cfg : StreamConfig) : ValveKept s (leakStale s cfg) := by
  unfold leakStale
  split
  · exact .refl s
  · exact .ite (takeLeakOutcome_valveKept s _ _) (.refl s)

theorem leakChannelLost_valveKept (s : State) (c : Nat) : ValveKept s (leakChannelLost s c) :=
  .ite (takeLeakOutcome_valveKept s _ _) (.refl s)

/-- The newest command repeated is the one in the slot (R125). -/
theorem repeatValve_valveKept (s : State) : ValveKept s (repeatValve s) := fun h => by
  unfold repeatValve
  split
  · exact h
  · split
    · exact h
    · next kind hkind =>
      unfold placeValve
      split
      · exact h
      · exact ⟨h.stand, h.noStand, h.suppressed, h.reset, h.last, by rintro _ _ ⟨⟩; exact ⟨hkind, rfl⟩⟩

/-! ## Channels and streams (R134) -/

theorem channelLost_valveKept (s : State) (c : Nat) : ValveKept s (channelLost s c) :=
  (ValveKept.of_valve (by simp)).trans (leakChannelLost_valveKept _ c)

theorem channelValue_valveKept (s : State) (c : Nat) (raw : Int) (filled : Bool) :
    ValveKept s (channelValue s c raw filled).1 := by
  have htaken := ValveKept.of_valve (updateChannel_valve s c (fun ch => (ch.take raw filled).1))
  unfold channelValue
  dsimp only
  repeat' split
  · exact .refl s
  · exact .refl s
  · exact htaken
  · exact htaken
  · exact htaken.trans ((ValveKept.of_valve (raise_valve _ _ _ _ _)).trans (channelLost_valveKept _ c))
  · exact htaken.trans ((ValveKept.of_valve (runInValue_valve _ _)).trans (leakValue_valveKept _ _))

theorem deliverValues_valveKept (s : State) (filled : Bool) (bs : List (Option Nat)) (raws : List Int) :
    ValveKept s (deliverValues s filled bs raws).1 := by
  induction bs generalizing s raws with
  | nil => exact .refl s
  | cons b bs ih =>
    cases raws with
    | nil => cases b <;> exact .refl s
    | cons r raws =>
      cases b with
      | none => exact ih s raws
      | some c => exact (channelValue_valveKept s c r filled).trans (ih _ raws)

theorem deliver_valveKept (s : State) (i : Nat) (cfg : StreamConfig) (set : SampleSet) (filled : Bool) :
    ValveKept s (deliver s i cfg set filled) := by
  refine (deliverValues_valveKept s filled cfg.binding set.values).trans (.of_valve ?_)
  unfold deliver
  dsimp only
  (repeat' split) <;> simp

theorem acceptSet_valveKept (s : State) (i : Nat) (cfg : StreamConfig) (q : Nat) (set : SampleSet) :
    ValveKept s (acceptSet s i cfg q set) :=
  (ValveKept.of_valve (updateStreamRun_valve s i _)).trans (deliver_valveKept _ _ _ _ _)

theorem fillBefore_valveKept (s : State) (i : Nat) (cfg : StreamConfig) (run : StreamRun) (set : SampleSet) :
    ValveKept s (fillBefore s i cfg run set) := by
  unfold fillBefore
  split
  · exact .refl s
  · exact (ValveKept.of_valve (updateStreamRun_valve s i _)).trans (deliver_valveKept _ _ _ _ _)

theorem sequenceCheck_valveKept (s : State) (i : Nat) (cfg : StreamConfig) (run : StreamRun) (q : Nat)
    (set : SampleSet) : ValveKept s (sequenceCheck s i cfg run q set) := by
  unfold sequenceCheck
  repeat' split
  · exact acceptSet_valveKept _ _ _ _ _
  · exact acceptSet_valveKept _ _ _ _ _
  · exact (fillBefore_valveKept _ _ _ _ _).trans (acceptSet_valveKept _ _ _ _ _)
  · exact .of_valve (updateStreamRun_valve _ _ _)
  · exact (ValveKept.of_valve (by simp)).trans (acceptSet_valveKept _ _ _ _ _)

theorem intake_valveKept (s : State) (i : Nat) (cfg : StreamConfig) (payload : List Byte) :
    ValveKept s (intake s i cfg payload) := by
  unfold intake
  repeat' split
  · exact .refl s
  · exact .of_valve (updateStreamRun_valve _ _ _)
  · exact sequenceCheck_valveKept _ _ _ _ _ _
  · exact acceptSet_valveKept _ _ _ _ _
  · exact acceptSet_valveKept _ _ _ _ _

theorem streamGone_valveKept (s : State) (i : Nat) (cfg : StreamConfig) : ValveKept s (streamGone s i cfg) := by
  rw [streamGone_eq]
  exact (ValveKept.of_valve (by simp)).trans (leakStale_valveKept _ cfg)

theorem staleExpires_valveKept (s : State) (i : Nat) : ValveKept s (staleExpires s i) := by
  unfold staleExpires
  split
  · exact .refl s
  · exact (ValveKept.of_valve (updateStreamRun_valve s i _)).trans
      ((streamGone_valveKept _ _ _).trans (.of_valve (raise_valve _ _ _ _ _)))

end Sys2Proof.Machine
end

section
/-! Every step keeps the valves from being told to fill or isolate when they may not. -/
namespace Sys2Proof.Machine

/-! ## Requests (R122, R123, R135, R138) -/

/-- START_LEAK is accepted with a stand record alone (R122). -/
theorem startLeakCheck_stand {s : State} {c : Nat} {st : Stand} {v : Variant}
    (h : startLeakCheck s = .ok (c, st, v)) : s.stand = some st := by
  unfold startLeakCheck at h
  (repeat' split at h) <;> cases h
  assumption

/-- START_LEAK ends the suppression; no station reset may be in progress then (R166). -/
theorem startLeak_valveKept {s : State} (hw : s.requests.resetWait = none) : ValveKept s (startLeak s).1 := fun h => by
  unfold startLeak
  split
  · exact h
  · next c st v hx =>
    have hst := startLeakCheck_stand hx
    dsimp only [accept_state]
    generalize hs1 : (updateUnit s .bayB _).setLeak _ = s1
    have hstand : s1.stand = some st := by rw [← hs1]; exact hst
    have hsup : s.valve.suppressed = false := by rw [h.suppressed]; simp [State.valve, hw]
    have hview : s1.valve = { s.valve with phase := some .fill } := by
      have hfree : s1.valve = { s.valve with phase := some .fill, suppressed := false } := by rw [← hs1]; rfl
      rw [hfree, ← hsup]
    rw [issueValve_valve hstand, hview]
    exact h.issued (by simp [State.valve, hst]) (kind := .fill) (phase := some .fill) rfl _

theorem abortLeak_valveKept (s : State) : ValveKept s (abortLeak s).1 := by
  unfold abortLeak
  split
  · exact .refl s
  · exact takeLeakOutcome_valveKept s _ _

theorem clearFaultB_valveKept (s : State) : ValveKept s (clearFaultB s).1 := by
  unfold clearFaultB
  split
  · exact .refl s
  · next r hr =>
    split
    · refine (ValveKept.of_valve (updateUnit_valve s .bayB _)).trans
        (issueValve_valveKept (r := r) ?_ (updateTest_valve (r := r) ?_ _) (updateTest_jobStep _ _).stand trivial)
      · exact hr
      · exact hr
    · exact .refl s

/-! ## Requests on the stand record, streams and channels (R16, R26, R54) -/

theorem loadStand_valveKept (record : Option Stand) (s : State) : ValveKept s (loadStand record s).1 := by
  unfold loadStand
  repeat' split
  · exact .refl s
  · exact .refl s
  · exact .refl s
  · exact (ValveKept.of_valve (angleFieldsChange_valve s _)).trans ValveView.Sound.withStand

theorem loadStream_valveKept (i : Nat) (config : Option StreamConfig) (s : State) :
    ValveKept s (loadStream i config s).1 := by
  unfold loadStream
  dsimp only
  repeat' split
  · exact .refl s
  · exact .refl s
  · exact .refl s
  · exact (streamGone_valveKept s i _).trans (.of_valve (updateStream_valve _ _ _))
  · exact .of_valve (updateStream_valve _ _ _)

theorem channelEnable_valveKept (c : Nat) (acquire diagnose : Option Bool) (s : State) :
    ValveKept s (channelEnable c acquire diagnose s).1 := by
  unfold channelEnable
  split
  · next acquire diagnose ch _ =>
    have henabled := ValveKept.of_valve (updateChannel_valve s c (fun ch => ch.enabled acquire diagnose))
    split
    · exact .refl s
    · exact .ite (henabled.trans (channelLost_valveKept _ c)) henabled
  · exact .refl s

/-- The effect of every request but RESET keeps the valves safe, with no station reset in progress. -/
theorem effectOf_valveKept {s : State} (hw : s.requests.resetWait = none) :
    ∀ (r : Req) (effect : State → State × Answer), effectOf r = some effect → ValveKept s (effect s).1
  | .bind _, _, rfl => .of_valve (bindTables_valve _ s)
  | .readStatus, _, rfl => .refl s
  | .setNotice _, _, rfl => .of_valve (setNotice_valve _ s)
  | .clearNotice _, _, rfl => .of_valve (clearNotice_valve _ s)
  | .loadStream _ _, _, rfl => loadStream_valveKept _ _ s
  | .loadChannel _ _, _, rfl => .of_valve (loadChannel_valve _ _ s)
  | .channelEnable _ _ _, _, rfl => channelEnable_valveKept _ _ _ s
  | .clearChannel _, _, rfl => .of_valve (clearChannel_valve _ s)
  | .readChannel _ _, _, rfl => .of_valve (congrArg State.valve (readChannel_state _ _ s))
  | .readAngle, _, rfl => .refl s
  | .clearAngle, _, rfl => .of_valve (clearAngle_valve s)
  | .loadStand _, _, rfl => loadStand_valveKept _ s
  | .loadVariant _ _, _, rfl => .of_valve (loadVariant_valve _ _ s)
  | .loadProfile _ _, _, rfl => .of_valve (loadProfile_valve _ _ s)
  | .loadOrderSet _ _, _, rfl => .of_valve (loadOrderSet_valve _ _ s)
  | .swapOrderSet _, _, rfl => .of_valve (swapOrderSet_valve _ s)
  | .readTable _ _, _, rfl => .of_valve (congrArg State.valve (readTable_state _ _ s))
  | .admitUnit _ _, _, rfl => .of_valve (admitUnit_valve _ _ s)
  | .advance .a, _, rfl => .of_valve (advanceA_valve s)
  | .advance .b, _, rfl => .of_valve (advanceB_valve s)
  | .release, _, rfl => .of_valve (release_valve s)
  | .withdraw _, _, rfl => .of_valve (withdraw_valve _ s)
  | .readUnit _ _ _, _, rfl => .of_valve (congrArg State.valve (readUnit_state _ _ _ s))
  | .startSpin, _, rfl => .of_valve (startSpin_valve s)
  | .abortSpin, _, rfl => .of_valve (abortSpin_valve s)
  | .clearFault .a, _, rfl => .of_valve (clearFaultA_valve s)
  | .clearFault .b, _, rfl => clearFaultB_valveKept s
  | .startLeak, _, rfl => startLeak_valveKept hw
  | .abortLeak, _, rfl => abortLeak_valveKept s
  | .readStats _, _, rfl => .of_valve (congrArg State.valve (readStats_state _ s))
  | .clearStats _, _, rfl => .of_valve (onStats_valve _ _ s)
  | .releaseVariant _, _, rfl => .of_valve (onStats_valve _ _ s)

theorem executeOne_valveKept {s : State} {q : Request} {effect : State → State × Answer}
    (h : ValveKept (dequeue s) (effect (dequeue s)).1) : ValveKept s (executeOne s q effect) :=
  ((ValveKept.of_valve (dequeue_valve s)).trans h).trans
    ((ValveKept.of_valve (enqueueReply_valve _ _)).trans (pump_valveKept _))

theorem executeKind_valveKept (s : State) {pick : Req → Option (State → State × Answer)}
    (h : ∀ r effect, pick r = some effect → effectOf r = some effect) : ValveKept s (executeKind s pick) := by
  rcases executeKind_cases s pick with he | ⟨q, r, effect, hq, -, hp, he⟩ <;> rw [he]
  · exact .refl s
  · have hw : (dequeue s).requests.resetWait = none := resetWait_of_oldest (s := s) hq
    exact executeOne_valveKept (effectOf_valveKept hw r effect (h r effect hp))

theorem executeBad_valveKept (s : State) : ValveKept s (executeBad s) := by
  unfold executeBad
  repeat' split
  · exact .refl s
  · exact .refl s
  · exact executeOne_valveKept (.refl _)

/-! ## Arrivals -/

theorem handleRow_valveKept (s : State) (f : Frame) (row : Row) : ValveKept s (handleRow s f row) := by
  unfold handleRow
  cases row with
  | stripped | expired => exact .of_valve rfl
  | consumed =>
    dsimp only
    split
    · exact .of_valve (receiveRequest_valve s _ _)
    · exact .of_valve rfl
  | matched i cfg =>
    dsimp only
    split
    · exact (ValveKept.of_valve (forwardFrame_valve s _)).trans (intake_valveKept _ _ _ _)
    · exact intake_valveKept s _ _ _
  | other => exact .of_valve (forwardFrame_valve s _)

theorem arrive_valveKept (s : State) (bytes : List Byte) : ValveKept s (arrive s bytes) := by
  unfold arrive
  repeat' split
  · exact .of_valve rfl
  · exact .of_valve rfl
  · exact .of_valve (forwardFrame_valve _ _)
  · exact (ValveKept.of_valve (goodArrival_valve s)).trans (handleRow_valveKept _ _ _)

/-! ## Resets (R172, R169, R170) and the replay (R174) -/

/-- After a power-on or pin reset no command has been issued and none waits. -/
theorem afterReset_sound (s : State) (pins : Pins) : (afterReset s pins).valve.Sound :=
  ⟨nofun, fun _ => rfl, rfl, nofun, nofun, nofun⟩

theorem completeReset_valve (s : State) (src tag : Nat) : (completeReset s src tag).valve =
    { s.valve with phase := none, suppressed := false, resetting := false } := by
  rw [completeReset, enqueueReply_valve, clearWork_eq]
  rfl

theorem safeCommands_valve {s : State} {st : Stand} (hst : s.stand = some st) (src tag : Nat) :
    (safeCommands s src tag).valve =
      { s.valve.issued st.valveNode .vent with suppressed := true, resetting := true } := by
  have hissued : (issueValve (issueDriveNow s false 0 0 0) .vent).valve = s.valve.issued st.valveNode .vent := by
    rw [issueValve_valve ((issueDriveNow_jobStep s _ _ _ _).stand.trans hst), issueDriveNow_valve]
  rw [← hissued]
  rfl

/-- The safe commands leave VENT as the newest command, and no other is issued until the clearing (R139, R169). -/
theorem safeCommands_valveKept {s : State} {st : Stand} (hst : s.stand = some st)
    (hw : s.requests.resetWait = none) (hload : s.loader.loading = false) (src tag : Nat) :
    ValveKept s (safeCommands s src tag) := fun h => by
  have hfree : s.valve.suppressed = false := by rw [h.suppressed]; simp [State.valve, hw]
  have hissued := h.issued (by simp [State.valve, hst]) (kind := .vent) (phase := s.valve.phase) trivial st.valveNode
  rw [safeCommands_valve hst]
  rw [ValveView.issued_of_free hfree] at hissued ⊢
  exact ⟨hissued.stand, hissued.noStand, rfl, fun _ => ⟨hload, rfl⟩, hissued.last, hissued.slot⟩

theorem executeReset_valveKept (s : State) : ValveKept s (executeReset s) := by
  unfold executeReset
  repeat' split
  · exact .refl s
  · next q hq _ _ =>
    obtain ⟨-, -, hw, hload⟩ := (mayExecute_iff s).1 (oldest_eq_some hq).1
    refine ((ValveKept.of_valve (dequeue_valve s)).trans ?_).trans (pump_valveKept _)
    unfold beginReset
    split
    · next hst =>
      obtain ⟨st, hst⟩ := Option.isSome_iff_exists.1 hst
      exact safeCommands_valveKept hst hw hload _ _
    · next hst =>
      refine fun h => completeReset_valve _ _ _ ▸ h.cleared fun kind hk => ?_
      cases (h.noStand (Bool.eq_false_iff.2 hst)).symm.trans hk
  · exact .refl s

/-- The clearing comes about only with a station reset in progress, and so after its VENT (R170). -/
theorem clearing_valveKept {s : State} {w : ResetWait} (hw : s.clearingDue = some w) :
    ValveKept s (completeReset s w.src w.tag) := fun h => by
  have hwait : s.valve.resetting = true := by simp [State.valve, (clearingDue_iff.1 hw).1]
  refine completeReset_valve _ _ _ ▸ h.cleared fun kind hk => ?_
  cases (h.reset hwait).2.symm.trans hk
  rfl

/-- While the Configuration Loader is loading no station reset is in progress (R166, R175). -/
theorem ValveView.Sound.resetWait_of_loading {s : State} (h : s.valve.Sound) (hl : s.loader.loading = true) :
    s.requests.resetWait = none := by
  rw [← Option.not_isSome_iff_eq_none]
  exact fun hw => absurd ((h.reset hw).1.symm.trans hl) nofun

theorem loadFails_valveKept {s : State} (hw : s.requests.resetWait = none) (record : Nat) :
    ValveKept s (loadFails s record) := fun h => h.withLoading (by simp [State.valve, hw]) _

theorem setLoader_valveKept {s : State} (hw : s.requests.resetWait = none) (x : LoaderState) :
    ValveKept s (s.setLoader x) := fun h => h.withLoading (by simp [State.valve, hw]) _

theorem imageRead_valveKept {s : State} (hl : s.loader.loading = true) (image : Option (List Byte)) :
    ValveKept s (imageRead s image) := fun h => by
  have hw := h.resetWait_of_loading hl
  unfold imageRead
  split
  · exact loadFails_valveKept hw 0 h
  · exact setLoader_valveKept hw _ h

/-- A stored record leaves the Request Unit alone (R174). -/
theorem replayRecord_valveKept {s : State} (hw : s.requests.resetWait = none) (assembly : Option Assembly)
    (record : List Byte) :
    ValveKept s (replayRecord s assembly record).1 ∧ (replayRecord s assembly record).1.requests = s.requests := by
  unfold replayRecord replayRequest
  dsimp only
  repeat' split
  · exact ⟨.refl s, rfl⟩
  · exact ⟨.of_valve rfl, rfl⟩
  · exact ⟨.refl s, rfl⟩
  · exact ⟨.refl s, rfl⟩
  · exact ⟨.refl s, rfl⟩
  · exact ⟨effectOf_valveKept hw _ _ ‹_›, (effectOf_effect s _ _ ‹_›).requests⟩

theorem replayNext_valveKept {s : State} (hl : s.loader.loading = true) (next : Nat) (record : List Byte)
    (rest : List (List Byte)) (assembly : Option Assembly) :
    ValveKept s (replayNext s next record rest assembly) := fun h => by
  have hw := h.resetWait_of_loading hl
  obtain ⟨hkept, hreq⟩ := replayRecord_valveKept hw assembly record
  have hw' : (replayRecord s assembly record).1.requests.resetWait = none := by rw [hreq, hw]
  unfold replayNext
  dsimp only
  repeat' split
  · exact loadFails_valveKept hw' _ (hkept h)
  · exact loadFails_valveKept hw' _ (hkept h)
  · exact setLoader_valveKept hw' _ (hkept h)
  · exact setLoader_valveKept hw' _ (hkept h)

/-! ## Every step -/

theorem whenDue_valveKept {s : State} {due : Bool} {effect : State → State}
    (h : due = true → ValveKept s (effect s)) : ValveKept s (whenDue s due effect) := by
  rcases whenDue_cases s due effect with he | ⟨-, hd, he⟩ <;> rw [he]
  · exact .refl s
  · exact (h hd).trans (pump_valveKept _)

theorem whenDue_valveKept_of_valve {s : State} {due : Bool} {effect : State → State}
    (h : (effect s).valve = s.valve) : ValveKept s (whenDue s due effect) := whenDue_valveKept fun _ => .of_valve h

theorem enterMeasure_valveKept {s : State} (h : s.leakSettleDue = true) : ValveKept s (enterMeasure s) := fun hs => by
  obtain ⟨r, hr, hp, -⟩ := (leakDue_iff s _ _).1 h
  rw [enterMeasure_valve hr]
  exact hs.measure (by simp [State.valve, hr, hp])

theorem exec_valveKept {c : Instr} {s t : State} (h : exec c s = .next t) : ValveKept s t := by
  cases hp : pickOf c with
  | some pick =>
    rw [exec_of_pickOf hp] at h
    cases h
    exact executeKind_valveKept s (effectOf_of_pickOf hp)
  | none =>
    cases c with
    | powerOn | pinReset => cases h; exact fun _ => afterReset_sound s _
    | resetEnd straps load asserted =>
      cases h
      split
      · exact fun _ => setLoader_valveKept (s := afterReset s _) rfl _ (afterReset_sound s _)
      · exact .refl s
    | configImageRead image =>
      cases h
      exact whenDue_valveKept fun hd => imageRead_valveKept (by rw [of_decide_eq_true hd]; rfl) image
    | configRecordReplay =>
      simp only [exec, execConfigRecordReplay] at h
      split at h <;> cases h
      · next hl => exact whenDue_valveKept fun _ => replayNext_valveKept (by rw [hl]; rfl) _ _ _ _
      · exact .refl s
    | frameArrival bytes => cases h; exact whenDue_valveKept fun _ => arrive_valveKept s bytes
    | fragment => cases h; exact whenDue_valveKept_of_valve rfl
    | transmissionEnd => cases h; exact whenDue_valveKept_of_valve (lineEnds_valve s)
    | ringDownTimeout => cases h; exact whenDue_valveKept_of_valve rfl
    | staleTimeout entry => cases h; exact whenDue_valveKept fun _ => staleExpires_valveKept s entry
    | guard asserted =>
      cases h
      split
      · exact .refl s
      · exact (ValveKept.of_valve (State.setPins_valve s _)).trans (whenDue_valveKept_of_valve (guardEdge_valve _ _))
    | assemblyTimeout => cases h; exact whenDue_valveKept_of_valve (assemblyExpires_valve s)
    | rampEnd => cases h; exact whenDue_valveKept_of_valve (enterSettle_valve s)
    | settleEnd => cases h; exact whenDue_valveKept_of_valve (holdEntry_valve s)
    | holdEnd => cases h; exact whenDue_valveKept_of_valve (endHold_valve s)
    | speedPersistExpiry => cases h; exact whenDue_valveKept_of_valve (takeOutcome_valve s _)
    | driveRefresh => cases h; exact whenDue_valveKept_of_valve (repeatDrive_valve s)
    | stopTimeout =>
      simp only [exec, execStopTimeout] at h
      split at h <;> cases h
      · exact .refl s
      · exact whenDue_valveKept_of_valve (stopTimedOut_valve s _)
    | fillTimeout => cases h; exact whenDue_valveKept fun _ => takeLeakOutcome_valveKept s _ _
    | leakSettleEnd => cases h; exact whenDue_valveKept enterMeasure_valveKept
    | measureEnd => cases h; exact whenDue_valveKept fun _ => endMeasure_valveKept s
    | ventTimeout =>
      simp only [exec, execVentTimeout] at h
      split at h <;> cases h
      · exact .refl s
      · next hr => exact whenDue_valveKept fun _ => ventTimedOut_valveKept hr
    | valveRefresh => cases h; exact whenDue_valveKept fun _ => repeatValve_valveKept s
    | badRequest => cases h; exact executeBad_valveKept s
    | reset => cases h; exact executeReset_valveKept s
    | stationResetClearing =>
      simp only [exec, execStationResetClearing] at h
      split at h <;> cases h
      · exact .refl s
      · next hw => exact whenDue_valveKept fun _ => clearing_valveKept hw
    | _ => cases hp

theorem idleNext_valve (s : State) : (idleNext s).2.valve = s.valve := by
  unfold idleNext tick
  repeat' split
  all_goals rfl

theorem step_valveKept {s t : State} (h : step s = .next t) : ValveKept s t := by
  have hidle := ValveKept.of_valve (idleNext_valve s)
  unfold step at h
  split at h
  · exact (ValveKept.of_valve (State.setPending_valve s _)).trans (exec_valveKept h)
  · split at h
    · next hn => rw [hn] at hidle; exact hidle.trans (exec_valveKept h)
    · next hn => rw [hn] at hidle; cases h; exact hidle

/-- Settles O59: `step_valveKept` says it of each step, whatever command or event it runs. -/
theorem everyStepKeepsTheValvesSafe : Obligations.EveryStepKeepsTheValvesSafe := fun s t hs h =>
  (valveSound_iff t).2 (step_valveKept h ((valveSound_iff s).1 hs))

end Sys2Proof.Machine
end

section
/-! START_LEAK (R122, R123): refused with the first of the reasons, or the test begins in FILL. -/
namespace Sys2Proof.Machine

/-- R122's reasons, in their order, for a record at BAY_B of a loaded variant. -/
def startLeakReasons (s : State) (u : UnitRecord) (v : Variant) : List (Bool × Code) :=
  [(s.leak.run.isSome, .active), (leakBars u.leak u.retests v.retestLimit, .wrongState),
   (s.stand.isNone || (s.select .pressure .b).isNone, .notReady)]

theorem startLeak_of_empty {s : State} (h : s.unitAt .bayB = none) : startLeak s = refuse s .bayEmpty := by
  simp only [startLeak, startLeakCheck, h]

section
variable {s : State} {u : UnitRecord} {n : Nat} {v : Variant} {stats : Stats} (hu : s.unitAt .bayB = some u)
  (hv : s.lookup u.variantId = some (n, v, stats))
include hu hv

theorem startLeakCheck_error (h : firstCode (startLeakReasons s u v) ≠ .ok) :
    startLeakCheck s = .error (firstCode (startLeakReasons s u v)) := by
  revert h
  simp only [startLeakCheck, startLeakReasons, hu, hv, firstCode_cons, firstCode_nil]
  split
  · simp
  split
  · simp
  rcases s.stand with _ | st
  · simp
  rcases s.select .pressure .b with _ | ch <;> simp

theorem startLeakCheck_ok {st : Stand} {ch : Nat × Channel} (h : firstCode (startLeakReasons s u v) = .ok)
    (hst : s.stand = some st) (hch : s.select .pressure .b = some ch) : startLeakCheck s = .ok (ch.1, st, v) := by
  revert h
  simp only [startLeakCheck, startLeakReasons, hu, hv, hst, hch, firstCode_cons, firstCode_nil]
  split
  · simp
  split <;> simp

end

/-- The test at its acceptance, in FILL, with its command (R123, R124, R127). -/
theorem startLeak_of_ok {s : State} {c : Nat} {st : Stand} {v : Variant} (h : startLeakCheck s = .ok (c, st, v)) :
    let number := (s.leak.commandNumber + 1) % 256
    startLeak s = accept { s with
      units := s.units.map (fun x => if x.position = .bayB then x.leakStarted else x),
      leak := { commandNumber := number, lastCommand := some .fill, refreshStart := some s.timeBase,
                suppressed := false, count := 0, run := some (leakRunOf c st v s.timeBase) },
      arbiter := { s.arbiter with valveSlot := some (st.valveNode, { kind := .fill, number := number }) } } := by
  have hst := startLeakCheck_stand h
  simp only [startLeak, h]
  rw [issueValve_of_free (st := st)]
  · rfl
  · rfl
  · exact hst

/-- Settles O50: the refusals by R122's list of reasons, the acceptance by its exact next state. -/
theorem startLeakBeginsInFill : Obligations.StartLeakBeginsInFill := by
  refine ⟨fun s q h hu => answers_of_effect h rfl rfl (startLeak_of_empty (s := dequeue s) hu),
    fun s q u n v stats h hu hv => ⟨fun hcode => ?_, fun st ch hcode hst hch => ?_⟩⟩
  · refine answers_of_effect h rfl rfl ?_
    have he := startLeakCheck_error (s := dequeue s) hu hv hcode
    simp only [startLeak, he]
    rfl
  · have he := startLeakCheck_ok (s := dequeue s) hu hv hcode hst hch
    exact answers_of_effect h rfl rfl (startLeak_of_ok he)

end Sys2Proof.Machine
end

section
/-! The ends of FILL, SETTLE and MEASURE by request and by time (R127 to R131, R134, R135). -/
namespace Sys2Proof.Machine

theorem abortLeak_of_run {s : State} {r : LeakRun} (hr : s.leak.run = some r) :
    abortLeak s = accept (takeLeakOutcome s (.aborted .request) none) := by simp only [abortLeak, hr]

theorem abortLeak_of_idle {s : State} (hr : s.leak.run = none) : abortLeak s = refuse s .notActive := by
  simp only [abortLeak, hr]

theorem leakDue_of_run {s : State} {r : LeakRun} (hr : s.leak.run = some r) (phase : LeakPhase)
    (limit : LeakRun → Nat) :
    s.leakDue phase limit = true ↔ r.phase = phase ∧ limit r ≤ elapsed s.timeBase r.phaseStart := by
  simp [leakDue_iff, hr]

/-- A_amb is the ambient channel's last value, or the stand record's default (R129). -/
theorem LeakRun.measuring_eq (r : LeakRun) (now : Time) (ambient : Option Int) : r.measuring now ambient =
    { r with phase := .measure, phaseStart := now, tMs := some now, first := [], recent := [],
             ambient := some (match ambient with | some a => a | none => r.stand.defaultAmbient) } := by
  cases ambient <;> rfl

theorem enterMeasure_of_run {s : State} {r : LeakRun} (hr : s.leak.run = some r) :
    enterMeasure s = s.setLeak { s.leak with
      count := 0,
      run := some (r.measuring s.timeBase ((s.select .ambientTemp .b).bind (fun x => x.2.lastValue))) } := by
  simp only [enterMeasure, hr]

/-! ## MEASURE ends (R131) -/

section
variable {s : State} {r : LeakRun} {u : UnitRecord} (hr : s.leak.run = some r) (hu : s.unitAt .bayB = some u)
include hr hu

theorem endMeasure_of_no_pressure (hc : s.leak.count = 0) :
    endMeasure s = takeLeakOutcome s (.aborted .stream) none := by simp only [endMeasure, hr, hu, hc, if_true]

theorem endMeasure_of_pressures (hc : s.leak.count ≠ 0) {a : Int} {tMs : Time} (ha : r.ambient = some a)
    (ht : r.tMs = some tMs) :
    let result := leakComputation r.stand r.variant u a tMs (meanOf r.first) (meanOf r.recent)
    endMeasure s =
      takeLeakOutcome s (if result.q ≤ r.variant.leakLimit then .pass else .fail .rate) (some result) := by
  simp only [endMeasure, hr, hu, hc, ha, ht, if_false, Option.getD_some]

end

/-- Settles O51: every outcome is taken as `takeLeakOutcome_taken` says. -/
theorem leakPhasesEnd : Obligations.LeakPhasesEnd := by
  refine ⟨fun s o result => ⟨fun st r hr hst ht => takeLeakOutcome_taken hr ht hst o result,
      fun h => takeLeakOutcome_of_not_testing h o result⟩,
    fun s q st r h hst hr ht => ⟨_, takeLeakOutcome_taken (s := dequeue s) hr ht hst _ _,
      answers_of_effect h rfl rfl (abortLeak_of_run (s := dequeue s) hr)⟩,
    fun s q r h hr ht => answers_of_effect h rfl rfl ?_,
    fun s q h hr => answers_of_effect h rfl rfl (abortLeak_of_idle (s := dequeue s) hr),
    fun s st r hheld hst hr => ⟨fun hp hle => ?_, fun hp hle => ?_, fun hp hle hunit => ⟨fun hc => ?_,
      fun unit a tMs hc hu ha ht => ?_⟩, fun h => ?_, fun h => ?_, fun h => ?_⟩⟩
  · have hnot : ∀ x, (dequeue s).leak.run = some x → x.phase.testing = false := by
      rintro x hx
      cases hr.symm.trans hx
      exact ht
    rw [abortLeak_of_run (s := dequeue s) hr, takeLeakOutcome_of_not_testing hnot]
    rfl
  · have hhappens := happens_of_whenDue (c := .fillTimeout) rfl hheld ((leakDue_of_run hr _ _).2 ⟨hp, hle⟩)
    exact ⟨_, takeLeakOutcome_taken hr (by rw [hp]; rfl) hst _ _, hhappens⟩
  · have hhappens := happens_of_whenDue (c := .leakSettleEnd) rfl hheld ((leakDue_of_run hr _ _).2 ⟨hp, hle⟩)
    rw [enterMeasure_of_run hr, LeakRun.measuring_eq] at hhappens
    exact hhappens
  · have hhappens := happens_of_whenDue (c := .measureEnd) rfl hheld ((leakDue_of_run hr _ _).2 ⟨hp, hle⟩)
    obtain ⟨unit, hu⟩ := Option.isSome_iff_exists.1 hunit
    rw [endMeasure_of_no_pressure hr hu hc] at hhappens
    exact ⟨_, takeLeakOutcome_taken hr (by rw [hp]; rfl) hst _ _, hhappens⟩
  · have hhappens := happens_of_whenDue (c := .measureEnd) rfl hheld ((leakDue_of_run hr _ _).2 ⟨hp, hle⟩)
    rw [endMeasure_of_pressures hr hu hc ha ht] at hhappens
    exact ⟨_, takeLeakOutcome_taken hr (by rw [hp]; rfl) hst _ _, hhappens⟩
  · exact congrArg Host.Outcome.next (whenDue_of_early (leakDue_of_run hr _ _) h _)
  · exact congrArg Host.Outcome.next (whenDue_of_early (leakDue_of_run hr _ _) h _)
  · exact congrArg Host.Outcome.next (whenDue_of_early (leakDue_of_run hr _ _) h _)

end Sys2Proof.Machine
end

section
/-! A valve command issued with the test and the record changed beside it (R124, R136, R137): what it says and what it
leaves. -/
namespace Sys2Proof.Machine

/-- The state with another Unit List, other notices and another test: what a valve command does not look at. -/
def State.beside (s : State) (units : List UnitRecord) (notices : Notices) (run : Option LeakRun) : State :=
  { s with units := units, notices := notices, leak := { s.leak with run := run } }

theorem beside_issued {s : State} {st : Stand} (hst : s.stand = some st) (units : List UnitRecord) (notices : Notices)
    (run : Option LeakRun) (kind : ValveKind) :
    valveIssued s (issueValve (s.beside units notices run) kind) st kind := by
  unfold valveIssued
  split
  · next hsup =>
    rw [issueValve_of_suppressed (s := s.beside units notices run) hsup]
    exact ⟨rfl, rfl, rfl, rfl⟩
  · next hsup =>
    rw [Bool.not_eq_true] at hsup
    rw [issueValve_of_free (s := s.beside units notices run) hsup hst]
    exact ⟨rfl, rfl, rfl, rfl⟩

theorem onlyLeakAndSlots.setLeak {s t : State} (h : onlyLeakAndSlots s t) (x : Leak) :
    onlyLeakAndSlots s (t.setLeak x) := by
  have hframe : t = (s.setLeak t.leak).setArbiter t.arbiter := h
  exact congrArg (fun w : State => w.setLeak x) hframe

theorem issueValve_frame (s : State) (kind : ValveKind) :
    let t := issueValve s kind
    t.units = s.units ∧ t.notices = s.notices ∧ t.leak.count = s.leak.count ∧
      t.leak.suppressed = s.leak.suppressed := by
  unfold issueValve placeValve
  dsimp only
  repeat' split
  all_goals exact ⟨rfl, rfl, rfl, rfl⟩

theorem raiseLeak_eq {s t : State} {r : LeakRun} {o : LeakOutcome} (hp : r.pending = some o) (src : Source)
    (hn : t.notices = s.notices) (hserial : t.serialAt .bayB = s.serialAt .bayB) :
    raiseLeak t src r = { t with notices := (raise s src (some .b) (s.serialAt .bayB) (.leak o)).notices } := by
  simp only [raiseLeak, hp, raise, hn, hserial]
  rfl

theorem leakSettled_units {s : State} {r : LeakRun} {o : LeakOutcome} (hp : r.pending = some o) :
    (s.leakSettled r).units = if r.written then s.units else s.units.map (fun y => if y.position = .bayB then
      { y with leak := .done o, leakResult := r.result } else y) := by
  unfold State.leakSettled
  split
  · rfl
  · simp only [writeLeak, hp]; rfl

theorem leakSettled_serialAt (s : State) (r : LeakRun) (p : Position) :
    (s.leakSettled r).serialAt p = s.serialAt p := by
  unfold State.leakSettled writeLeak
  repeat' split
  · rfl
  · rfl
  · exact updateUnit_serialAt s .bayB p fun _ => ⟨rfl, rfl⟩

end Sys2Proof.Machine
end

section
/-! A pressure judged by the phase it finds (R126 to R130, R136). -/
namespace Sys2Proof.Machine

theorem leakValue_of_other {s : State} {p : Published} (h : ∀ r, s.leak.run = some r → p.channel ≠ r.channel) :
    leakValue s p = s := by
  unfold leakValue
  split
  · rfl
  · next r hr => exact if_neg (h r hr)

theorem leakValue_of_required {s : State} {r : LeakRun} {p : Published} (hr : s.leak.run = some r)
    (hp : p.channel = r.channel) : leakValue s p = takePressure s r p.value := by simp only [leakValue, hr, hp, if_true]

/-! ## The rows of each phase -/

section
variable {r : LeakRun} (s : State) (x : Int)

theorem takePressure_of_fill (h : r.phase = .fill) : takePressure s r x =
    if (r.variant.targetPressure : Int) + r.variant.fillBand < x then takeLeakOutcome s (.aborted .pressureHigh) none
    else if (r.variant.targetPressure : Int) - r.variant.fillBand ≤ x then enterLeakSettle s
    else s := by simp only [takePressure, h]

theorem takePressure_of_settle (h : r.phase = .settle) : takePressure s r x =
    if x < (r.variant.targetPressure : Int) - 2 * r.variant.fillBand then takeLeakOutcome s (.fail .gross) none
    else s := by simp only [takePressure, h]

theorem takePressure_of_measure (h : r.phase = .measure) : takePressure s r x = s.setLeak { s.leak with
    count := satSucc 4294967295 s.leak.count, run := some (r.measured x) } := by simp only [takePressure, h]

theorem takePressure_of_vent (h : r.phase = .vent) : takePressure s r x =
    if x ≤ r.stand.ventThreshold then endVent s r else s := by simp only [takePressure, h]

theorem takePressure_of_faulted (h : r.phase = .faulted) : takePressure s r x = s := by simp only [takePressure, h]

end

theorem LeakRun.measured_eq (r : LeakRun) (x : Int) : r.measured x = { r with
    first := if r.first.length < r.variant.window then r.first ++ [x] else r.first,
    recent := if r.variant.window < r.recent.length + 1 then (r.recent ++ [x]).drop 1 else r.recent ++ [x] } := by
  simp only [LeakRun.measured, List.length_append, List.length_singleton, List.drop_one]

/-! ## SETTLE entered (R127 to R129) -/

/-- The state in which SETTLE has been entered with its command. -/
def leakSettling (s : State) (r : LeakRun) : State :=
  issueValve (s.beside s.units s.notices (some { r with phase := .settle, phaseStart := s.timeBase })) .isolate

theorem leakSettling_run (s : State) (r : LeakRun) :
    (leakSettling s r).leak.run = some { r with phase := .settle, phaseStart := s.timeBase } := issueValve_run _ _

theorem leakSettling_onlyLeakAndSlots (s : State) (r : LeakRun) : onlyLeakAndSlots s (leakSettling s r) :=
  (issueValve_onlyLeakAndSlots _ _).trans rfl

theorem enterLeakSettle_of_run {s : State} {r : LeakRun} (hr : s.leak.run = some r) : enterLeakSettle s =
    if r.variant.settleTime = 0 then enterMeasure (leakSettling s r) else leakSettling s r := by
  simp only [enterLeakSettle, hr, enterPhase, updateTest_of_run hr]
  rfl

/-- MEASURE entered from SETTLE at its entry: time and channels are still those of the pressure (R128, R129). -/
theorem enterMeasure_leakSettling (s : State) (r : LeakRun) : enterMeasure (leakSettling s r) =
    (leakSettling s r).setLeak { (leakSettling s r).leak with
      count := 0,
      run := some (r.measuring s.timeBase ((s.select .ambientTemp .b).bind (fun x => x.2.lastValue))) } := by
  have hframe : leakSettling s r = (s.setLeak _).setArbiter _ := leakSettling_onlyLeakAndSlots s r
  have htime : (leakSettling s r).timeBase = s.timeBase := (congrArg State.timeBase hframe).trans rfl
  have hselect : (leakSettling s r).select .ambientTemp .b = s.select .ambientTemp .b :=
    (congrArg (fun t => t.select .ambientTemp .b) hframe).trans rfl
  rw [enterMeasure_of_run (leakSettling_run s r), htime, hselect]
  rfl

/-! ## VENT ends (R136) -/

/-- The last command of a test, with its outcome in the record and LEAK_END raised (R136). -/
def leakEnding (s : State) (r : LeakRun) (o : LeakOutcome) : State :=
  issueValve (s.beside (s.leakSettled r).units
    (raise s .leakEnd (some .b) (s.serialAt .bayB) (.leak o)).notices s.leak.run) .vent

theorem endVent_eq {s : State} {r : LeakRun} {o : LeakOutcome} (hp : r.pending = some o) :
    endVent s r = (leakEnding s r o).setLeak { (leakEnding s r o).leak with run := none } := by
  have hend : endVent s r =
      let d := issueValve (raiseLeak (s.leakSettled r) .leakEnd r) .vent
      d.setLeak { d.leak with run := none } := rfl
  rw [hend, raiseLeak_eq hp .leakEnd (by rw [leakSettled_eq]; rfl) (leakSettled_serialAt s r _), leakSettled_eq]
  rfl

/-- Settles O52: the row of the phase (`takePressure_of_fill` and the others), and what it leaves. -/
theorem pressuresAreJudgedByTheState : Obligations.PressuresAreJudgedByTheState := by
  refine ⟨fun s p => ⟨leakValue_of_other, fun r => leakValue_of_required⟩, fun s st r x hst hr => ?_⟩
  intro target band u
  have htaken (ht : r.phase.testing = true) (o : LeakOutcome) := takeLeakOutcome_taken hr ht hst o none
  refine ⟨fun hphase hx => ?_, fun hphase hlow hhigh => ?_, fun hphase hx => ?_, fun hphase hx => ?_,
    fun hphase hx => ?_, fun hphase => ?_, fun o hphase hx hp => ?_, fun hphase hx => ?_,
    fun hphase => takePressure_of_faulted s x hphase⟩
  · have hu : u = takeLeakOutcome s (.aborted .pressureHigh) none :=
      (takePressure_of_fill s x hphase).trans (if_pos hx)
    exact hu ▸ htaken (by rw [hphase]; rfl) _
  · have hu : u = enterLeakSettle s :=
      (takePressure_of_fill s x hphase).trans ((if_neg (by omega)).trans (if_pos hlow))
    have hframe := leakSettling_onlyLeakAndSlots s r
    have hissued : valveIssued s (leakSettling s r) st .isolate := beside_issued hst _ _ _ _
    obtain ⟨-, -, hcount, hsup⟩ := issueValve_frame
      (s.beside s.units s.notices (some { r with phase := .settle, phaseStart := s.timeBase })) .isolate
    rw [hu, enterLeakSettle_of_run hr]
    by_cases hzero : r.variant.settleTime = 0
    · rw [if_pos hzero, enterMeasure_leakSettling, LeakRun.measuring_eq]
      exact ⟨hframe.setLeak _, hissued, hsup, fun hne => absurd hzero hne, fun _ => ⟨rfl, rfl⟩⟩
    · rw [if_neg hzero]
      exact ⟨hframe, hissued, hsup, fun _ => ⟨hcount, leakSettling_run s r⟩, fun hz => absurd hz hzero⟩
  · exact (takePressure_of_fill s x hphase).trans ((if_neg (by omega)).trans (if_neg (by omega)))
  · have hu : u = takeLeakOutcome s (.fail .gross) none := (takePressure_of_settle s x hphase).trans (if_pos hx)
    exact hu ▸ htaken (by rw [hphase]; rfl) _
  · exact (takePressure_of_settle s x hphase).trans (if_neg (by omega))
  · have hu := takePressure_of_measure s x hphase
    rw [LeakRun.measured_eq] at hu
    exact hu
  · have hu : u = endVent s r := (takePressure_of_vent s x hphase).trans (if_pos hx)
    obtain ⟨hunits, hnotices, hcount, -⟩ := issueValve_frame (s.beside (s.leakSettled r).units
      (raise s .leakEnd (some .b) (s.serialAt .bayB) (.leak o)).notices s.leak.run) .vent
    have hissued : valveIssued s (leakEnding s r o) st .vent := beside_issued hst _ _ _ _
    refine ⟨hu ▸ endVent_jobStep s r, ?_⟩
    rw [hu, endVent_eq hp]
    exact ⟨rfl, hcount, hissued, hnotices, hunits.trans (leakSettled_units hp)⟩
  · exact (takePressure_of_vent s x hphase).trans (if_neg (by omega))

end Sys2Proof.Machine
end

section
/-! The vent timeout (R137), CLEAR_FAULT B (R138) and the valve refresh (R125). -/
namespace Sys2Proof.Machine

/-! ## The vent timeout (R137) -/

/-- The vent timeout up to the notice and FAULTED: the outcome in the record and one more VENT (R137). -/
def leakOverdue (s : State) (r : LeakRun) : State :=
  issueValve (s.beside (s.leakSettled r).units s.notices s.leak.run) .vent

theorem leakOverdue_eq (s : State) (r : LeakRun) : leakOverdue s r = issueValve (s.leakSettled r) .vent := by
  rw [leakSettled_eq]; rfl

theorem leakOverdue_frame {s : State} {r : LeakRun} {o : LeakOutcome} (hp : r.pending = some o) :
    (leakOverdue s r).units = (if r.written then s.units else s.units.map (fun y => if y.position = .bayB then
      { y with leak := .done o, leakResult := r.result } else y)) ∧
    (leakOverdue s r).notices = s.notices ∧ (leakOverdue s r).leak.run = s.leak.run ∧
    (leakOverdue s r).serialAt .bayB = s.serialAt .bayB := by
  obtain ⟨hunits, hnotices, -, -⟩ := issueValve_frame
    (s.beside (s.leakSettled r).units s.notices s.leak.run) .vent
  exact ⟨hunits.trans (leakSettled_units hp), hnotices, issueValve_run _ _,
    (State.serialAt_of_units hunits _).trans (leakSettled_serialAt s r _)⟩

/-- FAULTED, as the vent timeout leaves it (R137). -/
theorem ventTimedOut_eq {s : State} {r : LeakRun} {o : LeakOutcome} (hr : s.leak.run = some r)
    (hp : r.pending = some o) : ventTimedOut s r = { leakOverdue s r with
      notices := (raise s .ventTimeout (some .b) (s.serialAt .bayB) (.leak o)).notices,
      leak := { (leakOverdue s r).leak with
        run := some { r with written := true, phase := .faulted, phaseStart := s.timeBase } } } := by
  obtain ⟨-, hnotices, hrun, hserial⟩ := leakOverdue_frame (s := s) hp
  have hvent : ventTimedOut s r = updateTest (raiseLeak (leakOverdue s r) .ventTimeout r)
      (fun r => { r with written := true, phase := .faulted, phaseStart := s.timeBase }) := by
    rw [leakOverdue_eq]; rfl
  rw [hvent, raiseLeak_eq hp .ventTimeout hnotices hserial, updateTest_of_run (r := r)]
  · rfl
  · exact hrun.trans hr

theorem exec_ventTimeout_of_run {s : State} {r : LeakRun} (hr : s.leak.run = some r) :
    exec .ventTimeout s = .next (whenDue s s.ventDue (fun s => ventTimedOut s r)) := by
  simp only [exec, execVentTimeout, hr]

/-! ## CLEAR_FAULT B (R138) -/

theorem clearFaultB_of_faulted {s : State} {r : LeakRun} {st : Stand} (hr : s.leak.run = some r)
    (hphase : r.phase = .faulted) (hst : s.stand = some st) (hsup : s.leak.suppressed = false) :
    let number := (s.leak.commandNumber + 1) % 256
    clearFaultB s = accept { s with
      units := s.units.map (fun y => if y.position = .bayB then
        { y with leak := .running, leakResult := none } else y),
      leak := { s.leak with
        run := some { r with phase := .vent, phaseStart := s.timeBase, written := false },
        commandNumber := number, lastCommand := some .vent, refreshStart := some s.timeBase },
      arbiter := { s.arbiter with valveSlot := some (st.valveNode, { kind := .vent, number := number }) } } := by
  simp only [clearFaultB, hr, hphase, if_true]
  rw [updateTest_of_run (r := r), issueValve_of_free (st := st)]
  · rfl
  · exact hsup
  · exact hst
  · exact hr

theorem clearFaultB_of_not_faulted {s : State} (h : ∀ r, s.leak.run = some r → r.phase ≠ .faulted) :
    clearFaultB s = refuse s .notActive := by
  unfold clearFaultB
  split
  · rfl
  · next r hr => exact if_neg (h r hr)

/-! ## The refresh (R125) -/

theorem valveRefreshDue_iff (s : State) : s.valveRefreshDue = true ↔
    ∃ r start, s.leak.run = some r ∧ s.leak.refreshStart = some start ∧ r.phase ≠ .faulted ∧
      s.leak.suppressed = false ∧ r.stand.refresh ≤ elapsed s.timeBase start := by
  unfold State.valveRefreshDue
  cases s.leak.run <;> cases s.leak.refreshStart <;> simp [and_assoc]

theorem placeValve_of_stand {s : State} {st : Stand} (hst : s.stand = some st) (c : ValveCommand) :
    placeValve s c = s.setArbiter { s.arbiter with valveSlot := some (st.valveNode, c) } := by
  simp only [placeValve, hst]

theorem repeatValve_of_free {s : State} {st : Stand} {kind : ValveKind} (hsup : s.leak.suppressed = false)
    (hst : s.stand = some st) (hkind : s.leak.lastCommand = some kind) :
    repeatValve s = { s with
      leak := { s.leak with refreshStart := some s.timeBase },
      arbiter := { s.arbiter with
        valveSlot := some (st.valveNode, { kind := kind, number := s.leak.commandNumber }) } } := by
  rw [repeatValve, if_neg (by simp [hsup]), hkind]
  exact placeValve_of_stand (s := s.setLeak { s.leak with refreshStart := some s.timeBase }) hst _

/-- Settles O53: the vent timeout by what it leaves (`ventTimedOut_eq`), the rest by their exact next states. -/
theorem ventingEndsOrFaults : Obligations.VentingEndsOrFaults := by
  refine ⟨fun s r st o hheld hr hst hp hphase hle => ?_, fun s h => ?_, fun s q r st h hr hphase hst hsup => ?_,
    fun s q h hnot => ?_, fun s r st kind start hheld hr hst hkind hstart hphase hsup hle => ?_, fun s h => ?_⟩
  · have hdue : s.ventDue = true := (leakDue_of_run hr _ _).2 ⟨hphase, hle⟩
    have hhappens := happens_of_whenDue (exec_ventTimeout_of_run hr) hheld hdue
    obtain ⟨hunits, -, -, -⟩ := leakOverdue_frame (s := s) hp
    have hissued : valveIssued s (leakOverdue s r) st .vent := beside_issued hst _ _ _ _
    refine ⟨_, hhappens, ventTimedOut_jobStep s r, ?_⟩
    rw [ventTimedOut_eq hr hp]
    exact ⟨rfl, hissued, rfl, hunits⟩
  · cases hr : s.leak.run with
    | none => simp only [exec, execVentTimeout, hr]
    | some r =>
      rw [exec_ventTimeout_of_run hr]
      exact congrArg Host.Outcome.next (whenDue_of_early (leakDue_of_run hr _ _) (h r hr) _)
  · exact answers_of_effect h rfl rfl (clearFaultB_of_faulted (s := dequeue s) hr hphase hst hsup)
  · exact answers_of_effect h rfl rfl (clearFaultB_of_not_faulted (s := dequeue s) hnot)
  · have hdue := (valveRefreshDue_iff s).2 ⟨r, start, hr, hstart, hphase, hsup, hle⟩
    have hhappens := happens_of_whenDue (c := .valveRefresh) rfl hheld hdue
    rwa [repeatValve_of_free hsup hst hkind] at hhappens
  · have hearly : s.valveRefreshDue = false := by
      rw [Bool.eq_false_iff, ne_eq, valveRefreshDue_iff]
      rintro ⟨r, start, hr, hstart, hphase, hsup, hle⟩
      rcases h r start hr hstart with hf | hsuppressed | hlt
      · exact hphase hf
      · cases hsup.symm.trans hsuppressed
      · omega
    exact congrArg Host.Outcome.next (whenDue_of_not_due hearly _)

end Sys2Proof.Machine
end

section
/-! The leak computation and its bounds (R132, R133). -/
namespace Sys2Proof.Machine

/-- E(t) falls as time passes (R132). -/
theorem excess_antitone (e0 span : Nat) {t1 t2 : Nat} (h : t1 ≤ t2) : excess e0 span t2 ≤ excess e0 span t1 :=
  Nat.div_le_div_right (Nat.mul_le_mul_left _ (Nat.sub_le_sub_left h _))

/-- E0 is the oil's excess over the ambient at the end of the run-in, 0 where either is absent (R132). -/
theorem initialExcess_excess (u : UnitRecord) (a : Int) : (initialExcess u a).1 =
    match u.tEnd, u.tEndAt with
    | some t, some _ => (max 0 (t - a)).toNat
    | _, _ => 0 := by
  unfold initialExcess
  cases u.tEnd <;> cases u.tEndAt <;> rfl

theorem initialExcess_uncompensated (u : UnitRecord) (a : Int) :
    (initialExcess u a).2 = true ↔ u.tEnd = none ∨ u.tEndAt = none := by
  unfold initialExcess
  cases u.tEnd <;> cases u.tEndAt <;> simp

section
variable (st : Stand) (v : Variant) (u : UnitRecord) (a : Int) (tMs : Time) (p1 p2 : Int)

/-- The time from the end of the run-in to t_ms, t1 of R132. -/
def coolingTime (u : UnitRecord) (tMs : Time) : Nat := match u.tEndAt with | some t => elapsed tMs t | none => 0

/-- The thermal term, the drop of E(t) over MEASURE as a difference of integers (R132). -/
theorem leakComputation_dTherm :
    let e (t : Nat) : Nat := excess (initialExcess u a).1 v.coolingSpan t
    let t1 := coolingTime u tMs
    (leakComputation st v u a tMs p1 p2).dTherm =
      Int.fdiv (max 0 (p1 + st.patm) * ((e t1 : Int) - e (t1 + v.measureTime))) (max 20000 (27315 + a + e t1)) := by
  intro e t1
  rw [← Int.ofNat_sub (excess_antitone _ _ (Nat.le_add_right t1 v.measureTime))]
  rfl

theorem leakComputation_dTherm_nonneg : 0 ≤ (leakComputation st v u a tMs p1 p2).dTherm :=
  Int.fdiv_nonneg (mul_nonneg (le_max_left _ _) (Int.natCast_nonneg _)) (le_max_of_le_left (by decide))

theorem leakComputation_dLeak : (leakComputation st v u a tMs p1 p2).dLeak =
    max 0 (p1 - p2 - (leakComputation st v u a tMs p1 p2).dTherm) := by
  have hdef : (leakComputation st v u a tMs p1 p2).dLeak =
      if p1 - p2 - (leakComputation st v u a tMs p1 p2).dTherm < 0 then 0
      else p1 - p2 - (leakComputation st v u a tMs p1 p2).dTherm := rfl
  rw [hdef]
  split <;> omega

theorem leakComputation_gain : (leakComputation st v u a tMs p1 p2).gain = true ↔
    p1 - p2 - (leakComputation st v u a tMs p1 p2).dTherm < 0 := decide_eq_true_iff

/-- Q, a floor that is not negative since the leak term is not, held at 65535 (R133). -/
theorem leakComputation_q : ((leakComputation st v u a tMs p1 p2).q : Int) =
    min 65535 (Int.fdiv ((leakComputation st v u a tMs p1 p2).dLeak * v.volume * 6000000)
      ((st.patm : Int) * v.measureTime)) := by
  have hdef : (leakComputation st v u a tMs p1 p2).q =
      min 65535 (Int.fdiv ((leakComputation st v u a tMs p1 p2).dLeak * v.volume * 6000000)
        ((st.patm : Int) * v.measureTime)).toNat := rfl
  have hleak : 0 ≤ (leakComputation st v u a tMs p1 p2).dLeak := by
    rw [leakComputation_dLeak]; exact le_max_left _ _
  have hrate : 0 ≤ Int.fdiv ((leakComputation st v u a tMs p1 p2).dLeak * v.volume * 6000000)
      ((st.patm : Int) * v.measureTime) := Int.fdiv_nonneg (by positivity) (by positivity)
  rw [hdef, Nat.cast_min, Int.toNat_of_nonneg hrate]
  rfl

end

/-- Settles O54: the terms by the lemmas above, and the bounds from them. -/
theorem leakResultIsComputedAndBounded : Obligations.LeakResultIsComputedAndBounded := by
  intro st v u a tMs p1 p2 _ _ _ r
  have htherm := leakComputation_dTherm st v u a tMs p1 p2
  have htherm0 : 0 ≤ r.dTherm := leakComputation_dTherm_nonneg ..
  have hleak : r.dLeak = max 0 (p1 - p2 - r.dTherm) := leakComputation_dLeak ..
  have hgain : r.gain = true ↔ p1 - p2 - r.dTherm < 0 := leakComputation_gain ..
  have hq := leakComputation_q st v u a tMs p1 p2
  have hmeas : r.dMeas = p1 - p2 := rfl
  refine ⟨rfl, rfl, rfl, ?_, hleak, hgain, initialExcess_uncompensated u a, hq, htherm0, by omega, by omega,
    Nat.min_le_left _ _, fun hg => ?_⟩
  · rw [initialExcess_excess] at htherm
    exact htherm
  · have hnone : (leakComputation st v u a tMs p1 p2).dLeak = 0 := by
      have := hgain.1 hg
      exact hleak.trans (by omega)
    rw [hnone, zero_mul, zero_mul, Int.zero_fdiv] at hq
    exact Int.natCast_eq_zero.1 hq

end Sys2Proof.Machine
end

section
/-! What a RELEASE does to one slot's statistics (R143 to R145): each of its three stages, and the whole. -/
namespace Sys2Proof.Machine

variable {t : Stats} {threshold : Nat}

/-! ## The counts (R143) -/

theorem Stats.counted_of_lt (h : t.tested < 4294967295) (v : Verdict) : t.counted v =
    { t with tested := t.tested + 1, accepted := t.accepted + (if v = .accept then 1 else 0),
             rejected := t.rejected + (if v = .reject then 1 else 0),
             incomplete := t.incomplete + (if v = .incomplete then 1 else 0) } := by
  rw [Stats.counted, if_pos h]
  cases v <;> rfl

theorem Stats.counted_of_full (h : 4294967295 ≤ t.tested) (v : Verdict) :
    t.counted v = { t with frozen := true } := if_neg (Nat.not_lt.2 h)

/-- The counts leave the watch on the variant alone. -/
theorem Stats.counted_frame (t : Stats) (v : Verdict) : t.counted v =
    { t with tested := (t.counted v).tested, accepted := (t.counted v).accepted, rejected := (t.counted v).rejected,
             incomplete := (t.counted v).incomplete, frozen := (t.counted v).frozen } := by
  unfold Stats.counted; split <;> rfl

/-! ## The counters (R144) -/

theorem Stats.watched_of_held (h : t.held = true) (threshold : Nat) (u : UnitRecord) : t.watched threshold u = t :=
  if_pos h

theorem Stats.watched_of_free (h : t.held = false) (threshold : Nat) (u : UnitRecord) : t.watched threshold u =
    { t with runinRejects := rejectCounter threshold u.failed.runin u.passed.runin t.runinRejects,
             noiseRejects := rejectCounter threshold u.failed.noise u.passed.noise t.noiseRejects,
             leakRejects := rejectCounter threshold u.failed.leak u.passed.leak t.leakRejects } :=
  if_neg (Bool.eq_false_iff.1 h)

/-! ## The hold (R145) -/

theorem Stats.atThreshold_any : (t.atThreshold threshold).any = true ↔
    t.runinRejects = threshold ∨ t.noiseRejects = threshold ∨ t.leakRejects = threshold := by
  simp [Checks.any, Stats.atThreshold, or_assoc]

/-- When a hold is set. -/
theorem Stats.holding_sets_iff : (t.holding threshold).2 = true ↔ t.held = false ∧ threshold ≠ 0 ∧
    (t.runinRejects = threshold ∨ t.noiseRejects = threshold ∨ t.leakRejects = threshold) := by
  rw [← Stats.atThreshold_any, Stats.holding]
  split <;> simp_all

/-- What a hold sets. -/
theorem Stats.holding_eq (t : Stats) (threshold : Nat) : (t.holding threshold).1 =
    { t with held := t.held || (t.holding threshold).2,
             holdChecks := if (t.holding threshold).2 then t.atThreshold threshold else t.holdChecks } := by
  unfold Stats.holding; split <;> simp

/-- The hold of a slot that was not held (R145). -/
theorem Stats.holding_of_free (h : t.held = false) (threshold : Nat) :
    let n := (t.holding threshold).1
    ((t.holding threshold).2 = true ↔ threshold ≠ 0 ∧
      (n.runinRejects = threshold ∨ n.noiseRejects = threshold ∨ n.leakRejects = threshold)) ∧
    n.held = (t.holding threshold).2 ∧
    n.holdChecks = if n.held then n.atThreshold threshold else t.holdChecks := by
  have hsets := Stats.holding_sets_iff (t := t) (threshold := threshold)
  simp only [h, true_and] at hsets
  simp only [Stats.holding_eq t threshold, h, Bool.false_or]
  exact ⟨hsets, trivial, rfl⟩

/-! ## A whole RELEASE -/

theorem Stats.released_of_held (h : t.held = true) (threshold : Nat) (v : Verdict) (u : UnitRecord) :
    t.released threshold v u = (t.counted v, false) := by
  have hc : (t.counted v).held = true := by rw [Stats.counted_frame]; exact h
  rw [Stats.released, Stats.watched_of_held hc, Stats.holding, hc]
  rfl

theorem Stats.released_of_free (h : t.held = false) (threshold : Nat) (v : Verdict) (u : UnitRecord) :
    t.released threshold v u = Stats.holding
      { t.counted v with
        runinRejects := rejectCounter threshold u.failed.runin u.passed.runin t.runinRejects,
        noiseRejects := rejectCounter threshold u.failed.noise u.passed.noise t.noiseRejects,
        leakRejects := rejectCounter threshold u.failed.leak u.passed.leak t.leakRejects } threshold := by
  have hc : (t.counted v).held = false := by rw [Stats.counted_frame]; exact h
  rw [Stats.released, Stats.watched_of_free hc, Stats.counted_frame]

/-- The watch and the hold leave the counts alone. -/
theorem Stats.released_frame (t : Stats) (threshold : Nat) (v : Verdict) (u : UnitRecord) :
    let n := (t.released threshold v u).1
    n = { t.counted v with runinRejects := n.runinRejects, noiseRejects := n.noiseRejects,
                           leakRejects := n.leakRejects, held := n.held, holdChecks := n.holdChecks } := by
  intro n
  simp only [n]
  cases h : t.held with
  | true => rw [Stats.released_of_held h]
  | false => rw [Stats.released_of_free h, Stats.holding_eq]

/-- The counters at a RELEASE of a slot that was not held (R144). -/
theorem Stats.released_counters (h : t.held = false) (threshold : Nat) (v : Verdict) (u : UnitRecord) :
    let n := (t.released threshold v u).1
    n.runinRejects = rejectCounter threshold u.failed.runin u.passed.runin t.runinRejects ∧
    n.noiseRejects = rejectCounter threshold u.failed.noise u.passed.noise t.noiseRejects ∧
    n.leakRejects = rejectCounter threshold u.failed.leak u.passed.leak t.leakRejects := by
  rw [Stats.released_of_free h, Stats.holding_eq]
  exact ⟨rfl, rfl, rfl⟩

/-- The hold at a RELEASE of a slot that was not held (R145). -/
theorem Stats.released_hold (h : t.held = false) (threshold : Nat) (v : Verdict) (u : UnitRecord) :
    let n := (t.released threshold v u).1
    ((t.released threshold v u).2 = true ↔ threshold ≠ 0 ∧
      (n.runinRejects = threshold ∨ n.noiseRejects = threshold ∨ n.leakRejects = threshold)) ∧
    n.held = (t.released threshold v u).2 ∧
    n.holdChecks = if n.held then n.atThreshold threshold else t.holdChecks := by
  have hcounted : (t.counted v).held = false ∧ (t.counted v).holdChecks = t.holdChecks := by
    rw [Stats.counted_frame]; exact ⟨h, rfl⟩
  obtain ⟨hheld, hchecks⟩ := hcounted
  rw [Stats.released_of_free h, ← hchecks]
  refine Stats.holding_of_free ?_ threshold
  exact hheld

end Sys2Proof.Machine
end

section
/-! A RELEASE and the requests on statistics keep them sound (R143 to R147). -/
namespace Sys2Proof.Machine

variable {t : Stats} {threshold : Nat}

/-- With every counter zero and no hold, the counts alone matter. -/
theorem Stats.sound_of_unwatched (hsum : t.tested = t.accepted + t.rejected + t.incomplete)
    (hrunin : t.runinRejects = 0) (hnoise : t.noiseRejects = 0) (hleak : t.leakRejects = 0) (hheld : t.held = false)
    (hchecks : t.holdChecks = Checks.empty) (threshold : Nat) : t.Sound threshold where
  sum := hsum
  runin := hrunin ▸ Nat.zero_le _
  noise := hnoise ▸ Nat.zero_le _
  leak := hleak ▸ Nat.zero_le _
  held := by rw [hheld, hrunin, hnoise, hleak]; simp [eq_comm]
  checks := by rw [hheld, hchecks]; rfl

theorem Stats.zero_sound (threshold : Nat) : Stats.zero.Sound threshold :=
  Stats.sound_of_unwatched rfl rfl rfl rfl rfl rfl threshold

theorem Stats.Sound.unheld (h : t.Sound threshold) : t.unheld.Sound threshold :=
  Stats.sound_of_unwatched (t := t.unheld) h.sum rfl rfl rfl rfl rfl threshold

/-- Each verdict that a RELEASE gives is one of the three that are counted. -/
theorem Stats.Sound.counted (h : t.Sound threshold) {v : Verdict} (hv : v ≠ .withdrawn) :
    (t.counted v).Sound threshold := by
  rcases Nat.lt_or_ge t.tested 4294967295 with hlt | hfull
  · rw [Stats.counted_of_lt hlt]
    refine { h with sum := ?_ }
    have hsum := h.sum
    cases v with
    | withdrawn => exact absurd rfl hv
    | accept | reject | incomplete => simp only [reduceCtorEq, ite_true, ite_false]; omega
  · rw [Stats.counted_of_full hfull]
    exact { h with }

/-- A slot that is not held has every counter below its threshold. -/
theorem Stats.Sound.below (h : t.Sound threshold) (hfree : t.held = false) (hne : threshold ≠ 0) :
    t.runinRejects < threshold ∧ t.noiseRejects < threshold ∧ t.leakRejects < threshold := by
  obtain ⟨-, hrunin, hnoise, hleak, hheld, -⟩ := h
  have hnone := mt hheld.2 (Bool.eq_false_iff.1 hfree)
  omega

/-- One RELEASE takes a counter at most to the threshold; with threshold 0 it never counts up (R144). -/
theorem rejectCounter_le {n : Nat} (hle : n ≤ threshold) (hlt : threshold ≠ 0 → n < threshold) (failed passed : Bool) :
    rejectCounter threshold failed passed n ≤ threshold := by
  unfold rejectCounter
  split_ifs <;> omega

/-- The hold is set exactly where it is due. -/
theorem Stats.holding_sound (hsum : t.tested = t.accepted + t.rejected + t.incomplete)
    (hrunin : t.runinRejects ≤ threshold) (hnoise : t.noiseRejects ≤ threshold) (hleak : t.leakRejects ≤ threshold)
    (hfree : t.held = false) (hchecks : t.holdChecks = Checks.empty) : (t.holding threshold).1.Sound threshold := by
  have hsets := Stats.holding_sets_iff (t := t) (threshold := threshold)
  simp only [hfree, true_and] at hsets
  rw [Stats.holding_eq, hfree, hchecks, Bool.false_or]
  exact ⟨hsum, hrunin, hnoise, hleak, hsets, rfl⟩

theorem Stats.Sound.watched_holding (h : t.Sound threshold) (u : UnitRecord) :
    ((t.watched threshold u).holding threshold).1.Sound threshold := by
  cases hheld : t.held with
  | true =>
    rw [Stats.watched_of_held hheld, Stats.holding, hheld]
    exact h
  | false =>
    rw [Stats.watched_of_free hheld]
    have hbelow := h.below hheld
    exact Stats.holding_sound h.sum (rejectCounter_le h.runin (fun hne => (hbelow hne).1) _ _)
      (rejectCounter_le h.noise (fun hne => (hbelow hne).2.1) _ _)
      (rejectCounter_le h.leak (fun hne => (hbelow hne).2.2) _ _) hheld (by rw [h.checks, hheld]; rfl)

theorem Stats.Sound.released (h : t.Sound threshold) {v : Verdict} (hv : v ≠ .withdrawn) (u : UnitRecord) :
    (t.released threshold v u).1.Sound threshold := (h.counted hv).watched_holding u

/-- A RELEASE accepts, rejects or finds incomplete; only WITHDRAW withdraws (R140, R141). -/
theorem verdictOf_ne_withdrawn (u : UnitRecord) (required : Checks) : (verdictOf u required).1 ≠ .withdrawn := by
  unfold verdictOf
  split_ifs <;> exact Verdict.noConfusion

end Sys2Proof.Machine
end

section
/-! What `State.StatsSound` speaks of, the variant slots, and the operations that leave them alone. -/
namespace Sys2Proof.Machine

/-- The variant slots; none while the part is unbound (R51). -/
def State.slots (s : State) : Option (List VariantSlot) := s.tables.map Tables.variants

/-- One slot's share in `State.StatsSound`. -/
def VariantSlot.Sound (x : VariantSlot) : Prop :=
  x.record.elim (x.stats = Stats.zero) fun v => x.stats.Sound v.holdThreshold

theorem statsSound_iff (s : State) : s.StatsSound ↔ ∀ xs, s.slots = some xs → ∀ x ∈ xs, x.Sound := by
  have hslot (x : VariantSlot) : (match x.record with
      | none => x.stats = Stats.zero
      | some v => x.stats.Sound v.holdThreshold) ↔ x.Sound := by
    unfold VariantSlot.Sound
    cases x.record <;> exact Iff.rfl
  unfold State.slots
  constructor
  · rintro h xs hxs x hx
    obtain ⟨t, ht, rfl⟩ := Option.map_eq_some_iff.1 hxs
    exact (hslot x).1 (h t ht x hx)
  · intro h t ht x hx
    exact (hslot x).2 (h t.variants (congrArg (Option.map Tables.variants) ht) x hx)

/-- From `s` to `t` sound statistics stay sound. -/
def StatsKept (s t : State) : Prop := s.StatsSound → t.StatsSound

theorem StatsKept.refl (s : State) : StatsKept s s := id

theorem StatsKept.trans {s t u : State} (h : StatsKept s t) (k : StatsKept t u) : StatsKept s u := k ∘ h

theorem StatsKept.of_slots {s t : State} (h : t.slots = s.slots) : StatsKept s t := by
  simp only [StatsKept, statsSound_iff, h, imp_self]

/-- No job writes a variant slot (R68). -/
theorem IntakeStep.slots {s t : State} (h : IntakeStep s t) : t.slots = s.slots := by
  have hkept := congrArg (Option.map fun k => k.2.1) h.tables
  simp only [Option.map_map] at hkept
  exact hkept

theorem JobStep.slots {s t : State} (h : JobStep s t) : t.slots = s.slots := h.intake.slots

theorem pump_slots (s : State) : (pump s).slots = s.slots :=
  congrArg (Option.map Tables.variants) (pump_lineStep s).tables

/-! ## The Request Unit, the ring, the Configuration Loader and the clearing -/

theorem enqueueRequest_slots (s : State) (q : Request) : (enqueueRequest s q).slots = s.slots := by
  unfold enqueueRequest; split <;> rfl

theorem receiveRequest_slots (s : State) (src : Nat) (payload : List Byte) :
    (receiveRequest s src payload).slots = s.slots := by
  have hqueued (qs : List Request) (t : State) : (qs.foldl enqueueRequest t).slots = t.slots := by
    induction qs generalizing t with
    | nil => rfl
    | cons q qs ih => exact (ih _).trans (enqueueRequest_slots t q)
  exact hqueued _ _

theorem assemblyExpires_slots (s : State) : (assemblyExpires s).slots = s.slots := by
  unfold assemblyExpires
  split
  · rfl
  · exact enqueueRequest_slots _ _

theorem forwardFrame_slots (s : State) (frame : List Byte) : (forwardFrame s frame).slots = s.slots := by
  unfold forwardFrame; repeat' split
  all_goals rfl

theorem goodArrival_slots (s : State) : (goodArrival s).slots = s.slots := by
  unfold goodArrival; dsimp only; split <;> rfl

theorem handleRow_slots (s : State) (f : Frame) (row : Row) : (handleRow s f row).slots = s.slots := by
  unfold handleRow
  cases row with
  | stripped | expired => rfl
  | consumed =>
    dsimp only
    split
    · exact receiveRequest_slots s _ _
    · rfl
  | matched i cfg =>
    dsimp only
    split
    · exact (intake_intakeStep _ _ _ _).slots.trans (forwardFrame_slots s _)
    · exact (intake_intakeStep s _ _ _).slots
  | other => exact forwardFrame_slots s _

theorem arrive_slots (s : State) (bytes : List Byte) : (arrive s bytes).slots = s.slots := by
  unfold arrive
  repeat' split
  · rfl
  · rfl
  · exact forwardFrame_slots _ _
  · exact (handleRow_slots _ _ _).trans (goodArrival_slots s)

theorem lineEnds_slots (s : State) : (lineEnds s).slots = s.slots := by
  have hreport (t : State) (o : Origin) : (reportTransmitted t o).slots = t.slots := by
    cases o with
    | transit | notice | drive | valve => rfl
    | reply => simp only [reportTransmitted, reportReply]; (repeat' split) <;> rfl
    | report number segment => simp only [reportTransmitted, reportSegment]; (repeat' split) <;> rfl
  unfold lineEnds
  split
  · rfl
  · exact hreport _ _

theorem imageRead_slots (s : State) (image : Option (List Byte)) : (imageRead s image).slots = s.slots := by
  unfold imageRead; split <;> rfl

theorem safeCommands_slots (s : State) (src tag : Nat) : (safeCommands s src tag).slots = s.slots :=
  ((issueDriveNow_jobStep s _ _ _ _).trans (issueValve_jobStep _ _)).slots

/-- A station reset leaves the variant slots with their statistics (R170). -/
theorem completeReset_slots (s : State) (src tag : Nat) : (completeReset s src tag).slots = s.slots := by
  have hswap : (resetSwap s).slots = s.slots := by
    unfold resetSwap
    split
    · rfl
    · exact (updateSlot_jobStep s _ _).slots
  rw [← hswap, completeReset, clearWork_eq]
  rfl

/-! ## Requests that leave the variant slots alone -/

theorem setNotice_slots (settings : Option NoticeSettings) (s : State) : (setNotice settings s).1.slots = s.slots := by
  unfold setNotice; split <;> rfl

theorem clearNotice_slots (sources : BitVec 16) (s : State) : (clearNotice sources s).1.slots = s.slots := by
  unfold clearNotice; split <;> rfl

theorem loadStream_slots (i : Nat) (config : Option StreamConfig) (s : State) :
    (loadStream i config s).1.slots = s.slots := by
  unfold loadStream
  dsimp only
  repeat' split
  · rfl
  · rfl
  · rfl
  · exact (streamGone_jobStep s i _).slots
  · rfl

theorem loadChannel_slots (c : Nat) (cfg : Option ChannelConfig) (s : State) :
    (loadChannel c cfg s).1.slots = s.slots := by
  unfold loadChannel; repeat' split
  all_goals rfl

theorem channelEnable_slots (c : Nat) (acquire diagnose : Option Bool) (s : State) :
    (channelEnable c acquire diagnose s).1.slots = s.slots := by
  unfold channelEnable
  dsimp only
  repeat' split
  · rfl
  · exact (channelLost_jobStep _ c).slots
  · rfl
  · rfl

theorem clearChannel_slots (c : Nat) (s : State) : (clearChannel c s).1.slots = s.slots := by
  unfold clearChannel; split <;> rfl

theorem clearAngle_slots (s : State) : (clearAngle s).1.slots = s.slots := by
  unfold clearAngle; split <;> rfl

theorem loadStand_slots (record : Option Stand) (s : State) : (loadStand record s).1.slots = s.slots := by
  have hchange (st : Stand) : (angleFieldsChange s st).slots = s.slots := by
    unfold angleFieldsChange
    split
    · rfl
    · next old _ =>
      have h : JobStep s (if old.sameAngle st then s else loseReference s) :=
        jobStep_ite (.refl s) (loseReference_jobStep s)
      exact (jobStep_ite h (h.trans (clearHistory_jobStep _))).slots
  unfold loadStand
  repeat' split
  · rfl
  · rfl
  · rfl
  · exact hchange _

theorem updateSlot_slots (s : State) (n : Nat) (f : OrderSlot → OrderSlot) : (updateSlot s n f).slots = s.slots :=
  (updateSlot_jobStep s n f).slots

theorem loadProfile_slots (p : Nat) (segments : Option (List Segment)) (s : State) :
    (loadProfile p segments s).1.slots = s.slots := by
  unfold loadProfile; repeat' split
  all_goals simp [State.slots, *]

theorem loadOrderSet_slots (slot : Nat) (set : Option OrderSet) (s : State) :
    (loadOrderSet slot set s).1.slots = s.slots := by
  unfold loadOrderSet; (repeat' split) <;> simp [updateSlot_slots]

theorem swapOrderSet_slots (slot : Nat) (s : State) : (swapOrderSet slot s).1.slots = s.slots := by
  unfold swapOrderSet; (repeat' split) <;> simp [updateSlot_slots, (carryOutSwap_jobStep s _ _ _).slots]

theorem admitUnit_slots (serial : Serial) (variant : Nat) (s : State) :
    (admitUnit serial variant s).1.slots = s.slots := by
  unfold admitUnit; repeat' split
  all_goals rfl

theorem advanceA_slots (s : State) : (advanceA s).1.slots = s.slots := by
  unfold advanceA; repeat' split
  all_goals rfl

theorem advanceB_slots (s : State) : (advanceB s).1.slots = s.slots := by
  unfold advanceB; repeat' split
  all_goals rfl

theorem withdraw_slots (serial : Serial) (s : State) : (withdraw serial s).1.slots = s.slots := by
  unfold withdraw; repeat' split
  all_goals rfl

theorem startSpin_slots (s : State) : (startSpin s).1.slots = s.slots := by
  unfold startSpin
  split
  · rfl
  · exact (beginSegment_jobStep _ 0).slots

theorem abortSpin_slots (s : State) : (abortSpin s).1.slots = s.slots := by
  unfold abortSpin
  split
  · rfl
  · exact (takeOutcome_jobStep s _).slots

theorem clearFaultA_slots (s : State) : (clearFaultA s).1.slots = s.slots := by
  unfold clearFaultA
  repeat' split
  · rfl
  · exact ((updateRun_jobStep s _).trans (issueDrive_jobStep _ _ _ _ _)).slots
  · rfl

theorem startLeak_slots (s : State) : (startLeak s).1.slots = s.slots := by
  unfold startLeak
  split
  · rfl
  · exact (issueValve_jobStep _ .fill).slots

theorem abortLeak_slots (s : State) : (abortLeak s).1.slots = s.slots := by
  unfold abortLeak
  split
  · rfl
  · exact (takeLeakOutcome_jobStep s _ _).slots

theorem clearFaultB_slots (s : State) : (clearFaultB s).1.slots = s.slots := by
  unfold clearFaultB
  repeat' split
  · rfl
  · exact ((updateTest_jobStep _ _).trans (issueValve_jobStep _ .vent)).slots
  · rfl

end Sys2Proof.Machine
end

section
/-! The requests that write variant slots (R51, R56, R75, R146, R147), and so every step, keep the statistics sound. -/
namespace Sys2Proof.Machine

/-! ## Writing a variant slot -/

/-- One slot written over with a sound one. -/
theorem setVariants_statsKept {s : State} {t : Tables} (ht : s.tables = some t) (slot : Nat)
    (f : VariantSlot → VariantSlot) (h : ∀ x, t.variants[slot]? = some x → x.Sound → (f x).Sound) :
    StatsKept s (s.setTables (some { t with variants := modifyAt f t.variants slot })) := fun hs => by
  rw [statsSound_iff] at hs ⊢
  have hslots : ∀ x ∈ t.variants, x.Sound := hs _ (congrArg (Option.map Tables.variants) ht)
  rintro _ ⟨⟩ y hy
  obtain ⟨j, hj⟩ := List.mem_iff_getElem?.1 hy
  rw [modifyAt_getElem?] at hj
  split at hj
  · next hslot =>
    subst hslot
    obtain ⟨x, hx, rfl⟩ := Option.map_eq_some_iff.1 hj
    exact h x hx (hslots x (List.mem_of_getElem? hx))
  · exact hslots y (List.mem_of_getElem? hj)

/-- New statistics for a slot, sound if its old ones were. -/
theorem setStats_statsKept {s : State} {t : Tables} (ht : s.tables = some t) {slot : Nat} {v : Variant} {old : Stats}
    (hx : t.variants[slot]? = some { record := some v, stats := old }) {new : Stats}
    (h : old.Sound v.holdThreshold → new.Sound v.holdThreshold) : StatsKept s (setStats s slot new) := by
  simp only [setStats, ht]
  refine setVariants_statsKept ht slot _ fun x hslot hold => ?_
  cases hx.symm.trans hslot
  exact h hold

/-! ## The requests -/

theorem firstAnswer_statsKept {s t : State} (h : StatsKept s t) (reasons : List (Bool × Code)) :
    StatsKept s (firstAnswer s reasons t).1 := by
  unfold firstAnswer
  dsimp only
  split
  · exact h
  · exact .refl s

theorem bindTables_statsKept (z : Sizes) (s : State) : StatsKept s (bindTables z s).1 := by
  rw [bindTables_answers]
  refine firstAnswer_statsKept (fun _ => (statsSound_iff _).2 ?_) _
  rintro _ ⟨⟩ x hx
  cases (List.mem_replicate.1 hx).2
  rfl

theorem loadVariant_statsKept (slot : Nat) (record : Option Variant) (s : State) :
    StatsKept s (loadVariant slot record s).1 := by
  cases ht : s.tables with
  | none =>
    rw [(loads_of_unbound ht).1]
    exact .refl s
  | some t =>
    cases record with
    | none =>
      rw [(loads_of_illegal ht).1]
      exact .refl s
    | some v =>
      rw [loadVariant_answers ht]
      exact firstAnswer_statsKept (setVariants_statsKept ht slot (fun _ => { record := some v, stats := Stats.zero })
        fun _ _ _ => Stats.zero_sound v.holdThreshold) _

theorem onStats_statsKept (slot : Nat) {f : Stats → Stats}
    (h : ∀ (t : Stats) (threshold : Nat), t.Sound threshold → (f t).Sound threshold) (s : State) :
    StatsKept s (onStats slot f s).1 := by
  unfold onStats
  repeat' split
  · exact .refl s
  · exact .refl s
  · exact .refl s
  · next t ht _ x hx hrec =>
    obtain ⟨record, stats⟩ := x
    obtain ⟨v, rfl⟩ := Option.ne_none_iff_exists'.1 (by simpa using hrec : record ≠ none)
    exact setStats_statsKept ht hx (h stats v.holdThreshold)

theorem releaseStats_statsKept (s : State) (u : UnitRecord) {v : Verdict} (hv : v ≠ .withdrawn) :
    StatsKept s (releaseStats s u v) := by
  unfold releaseStats
  split
  · exact .refl s
  · next slot variant stats hlookup =>
    obtain ⟨-, t, ht, hx⟩ := State.lookup_eq_some hlookup
    have hset : StatsKept s (setStats s slot (stats.released variant.holdThreshold v u).1) :=
      setStats_statsKept ht hx fun h => h.released hv u
    dsimp only
    split
    · exact hset.trans (.of_slots (raise_jobStep _ _ _ _ _).slots)
    · exact hset

theorem release_statsKept (s : State) : StatsKept s (release s).1 := by
  unfold release
  dsimp only
  repeat' split
  · exact .refl s
  · exact .refl s
  · exact .refl s
  · exact (releaseStats_statsKept s _ (verdictOf_ne_withdrawn _ _)).trans (.of_slots rfl)

/-- The effect of every request but RESET keeps the statistics sound. -/
theorem effectOf_statsKept (s : State) : ∀ (r : Req) (effect : State → State × Answer), effectOf r = some effect →
    StatsKept s (effect s).1
  | .bind _, _, rfl => bindTables_statsKept _ s
  | .readStatus, _, rfl => .refl s
  | .setNotice _, _, rfl => .of_slots (setNotice_slots _ s)
  | .clearNotice _, _, rfl => .of_slots (clearNotice_slots _ s)
  | .loadStream _ _, _, rfl => .of_slots (loadStream_slots _ _ s)
  | .loadChannel _ _, _, rfl => .of_slots (loadChannel_slots _ _ s)
  | .channelEnable _ _ _, _, rfl => .of_slots (channelEnable_slots _ _ _ s)
  | .clearChannel _, _, rfl => .of_slots (clearChannel_slots _ s)
  | .readChannel _ _, _, rfl => .of_slots (congrArg State.slots (readChannel_state _ _ s))
  | .readAngle, _, rfl => .refl s
  | .clearAngle, _, rfl => .of_slots (clearAngle_slots s)
  | .loadStand _, _, rfl => .of_slots (loadStand_slots _ s)
  | .loadVariant _ _, _, rfl => loadVariant_statsKept _ _ s
  | .loadProfile _ _, _, rfl => .of_slots (loadProfile_slots _ _ s)
  | .loadOrderSet _ _, _, rfl => .of_slots (loadOrderSet_slots _ _ s)
  | .swapOrderSet _, _, rfl => .of_slots (swapOrderSet_slots _ s)
  | .readTable _ _, _, rfl => .of_slots (congrArg State.slots (readTable_state _ _ s))
  | .admitUnit _ _, _, rfl => .of_slots (admitUnit_slots _ _ s)
  | .advance .a, _, rfl => .of_slots (advanceA_slots s)
  | .advance .b, _, rfl => .of_slots (advanceB_slots s)
  | .release, _, rfl => release_statsKept s
  | .withdraw _, _, rfl => .of_slots (withdraw_slots _ s)
  | .readUnit _ _ _, _, rfl => .of_slots (congrArg State.slots (readUnit_state _ _ _ s))
  | .startSpin, _, rfl => .of_slots (startSpin_slots s)
  | .abortSpin, _, rfl => .of_slots (abortSpin_slots s)
  | .clearFault .a, _, rfl => .of_slots (clearFaultA_slots s)
  | .clearFault .b, _, rfl => .of_slots (clearFaultB_slots s)
  | .startLeak, _, rfl => .of_slots (startLeak_slots s)
  | .abortLeak, _, rfl => .of_slots (abortLeak_slots s)
  | .readStats _, _, rfl => .of_slots (congrArg State.slots (readStats_state _ s))
  | .clearStats _, _, rfl => onStats_statsKept _ (fun _ threshold _ => Stats.zero_sound threshold) s
  | .releaseVariant _, _, rfl => onStats_statsKept _ (fun _ _ h => h.unheld) s

theorem executeOne_statsKept {s : State} {q : Request} {effect : State → State × Answer}
    (h : StatsKept (dequeue s) (effect (dequeue s)).1) : StatsKept s (executeOne s q effect) :=
  ((StatsKept.of_slots rfl).trans h).trans
    (.of_slots ((pump_slots (enqueueReply _ (replyTo q (effect (dequeue s)).2))).trans rfl))

theorem executeKind_statsKept (s : State) {pick : Req → Option (State → State × Answer)}
    (h : ∀ r effect, pick r = some effect → effectOf r = some effect) : StatsKept s (executeKind s pick) := by
  rcases executeKind_cases s pick with he | ⟨q, r, effect, -, -, hp, he⟩ <;> rw [he]
  · exact .refl s
  · exact executeOne_statsKept (effectOf_statsKept _ r effect (h r effect hp))

theorem executeBad_statsKept (s : State) : StatsKept s (executeBad s) := by
  unfold executeBad
  repeat' split
  · exact .refl s
  · exact .refl s
  · exact executeOne_statsKept (.refl _)

/-! ## Resets and the replay -/

/-- An unbound part, as a power-on or pin reset leaves it, has no slots (R51, R172). -/
theorem statsKept_of_unbound {s t : State} (h : t.slots = none) : StatsKept s t := fun _ =>
  StatsKept.of_slots (s := State.reset) h reset_statsSound

theorem executeReset_statsKept (s : State) : StatsKept s (executeReset s) := by
  unfold executeReset
  repeat' split
  · exact .refl s
  · refine .of_slots ((pump_slots _).trans ?_)
    unfold beginReset
    split
    · exact safeCommands_slots _ _ _
    · exact completeReset_slots _ _ _
  · exact .refl s

theorem replayRequest_statsKept (s : State) (q : Request) : StatsKept s (replayRequest s q).1 := by
  unfold replayRequest
  repeat' split
  · exact .refl s
  · exact .refl s
  · exact effectOf_statsKept s _ _ ‹_›

theorem replayRecord_statsKept (s : State) (assembly : Option Assembly) (record : List Byte) :
    StatsKept s (replayRecord s assembly record).1 := by
  unfold replayRecord
  dsimp only
  repeat' split
  · exact .refl s
  · exact .of_slots rfl
  · exact .refl s
  · exact replayRequest_statsKept s _

theorem replayNext_statsKept (s : State) (next : Nat) (record : List Byte) (rest : List (List Byte))
    (assembly : Option Assembly) : StatsKept s (replayNext s next record rest assembly) := by
  refine (replayRecord_statsKept s assembly record).trans (.of_slots ?_)
  unfold replayNext
  dsimp only
  repeat' split
  all_goals rfl

/-! ## Every step -/

theorem whenDue_statsKept {s : State} {due : Bool} {effect : State → State} (h : StatsKept s (effect s)) :
    StatsKept s (whenDue s due effect) := by
  rcases whenDue_cases s due effect with he | ⟨-, -, he⟩ <;> rw [he]
  · exact .refl s
  · exact h.trans (.of_slots (pump_slots _))

theorem whenDue_statsKept_of_slots {s : State} {due : Bool} {effect : State → State}
    (h : (effect s).slots = s.slots) : StatsKept s (whenDue s due effect) := whenDue_statsKept (.of_slots h)

theorem exec_statsKept {c : Instr} {s t : State} (h : exec c s = .next t) : StatsKept s t := by
  cases hp : pickOf c with
  | some pick =>
    rw [exec_of_pickOf hp] at h
    cases h
    exact executeKind_statsKept s (effectOf_of_pickOf hp)
  | none =>
    cases c with
    | powerOn | pinReset => cases h; exact statsKept_of_unbound rfl
    | resetEnd straps load asserted =>
      cases h
      split
      · exact statsKept_of_unbound rfl
      · exact .refl s
    | configImageRead image => cases h; exact whenDue_statsKept_of_slots (imageRead_slots s image)
    | configRecordReplay =>
      simp only [exec, execConfigRecordReplay] at h
      split at h <;> cases h
      · exact whenDue_statsKept (replayNext_statsKept s _ _ _ _)
      · exact .refl s
    | frameArrival bytes => cases h; exact whenDue_statsKept_of_slots (arrive_slots s bytes)
    | fragment => cases h; exact whenDue_statsKept_of_slots rfl
    | transmissionEnd => cases h; exact whenDue_statsKept_of_slots (lineEnds_slots s)
    | ringDownTimeout => cases h; exact whenDue_statsKept_of_slots rfl
    | staleTimeout entry => cases h; exact whenDue_statsKept_of_slots (staleExpires_intakeStep s entry).slots
    | guard asserted =>
      cases h
      split
      · exact .refl s
      · exact (StatsKept.of_slots (t := setGuardPin s asserted) rfl).trans
          (whenDue_statsKept_of_slots (guardEdge_jobStep _ _).slots)
    | assemblyTimeout => cases h; exact whenDue_statsKept_of_slots (assemblyExpires_slots s)
    | rampEnd => cases h; exact whenDue_statsKept_of_slots (enterSettle_jobStep s).slots
    | settleEnd => cases h; exact whenDue_statsKept_of_slots (holdEntry_jobStep s).slots
    | holdEnd => cases h; exact whenDue_statsKept_of_slots (endHold_jobStep s).slots
    | speedPersistExpiry => cases h; exact whenDue_statsKept_of_slots (takeOutcome_jobStep s _).slots
    | driveRefresh => cases h; exact whenDue_statsKept_of_slots (repeatDrive_jobStep s).slots
    | stopTimeout =>
      simp only [exec, execStopTimeout] at h
      split at h <;> cases h
      · exact .refl s
      · exact whenDue_statsKept_of_slots (stopTimedOut_jobStep s _).slots
    | fillTimeout => cases h; exact whenDue_statsKept_of_slots (takeLeakOutcome_jobStep s _ _).slots
    | leakSettleEnd => cases h; exact whenDue_statsKept_of_slots (enterMeasure_jobStep s).slots
    | measureEnd => cases h; exact whenDue_statsKept_of_slots (endMeasure_jobStep s).slots
    | ventTimeout =>
      simp only [exec, execVentTimeout] at h
      split at h <;> cases h
      · exact .refl s
      · exact whenDue_statsKept_of_slots (ventTimedOut_jobStep s _).slots
    | valveRefresh => cases h; exact whenDue_statsKept_of_slots (repeatValve_jobStep s).slots
    | badRequest => cases h; exact executeBad_statsKept s
    | reset => cases h; exact executeReset_statsKept s
    | stationResetClearing =>
      simp only [exec, execStationResetClearing] at h
      split at h <;> cases h
      · exact .refl s
      · exact whenDue_statsKept_of_slots (completeReset_slots s _ _)
    | _ => cases hp

theorem idleNext_slots (s : State) : (idleNext s).2.slots = s.slots := by
  unfold idleNext tick
  repeat' split
  all_goals rfl

theorem step_statsKept {s t : State} (h : step s = .next t) : StatsKept s t := by
  have hidle := StatsKept.of_slots (idleNext_slots s)
  unfold step at h
  split at h
  · next rest _ => exact (StatsKept.of_slots (t := s.setPending rest) rfl).trans (exec_statsKept h)
  · split at h
    · next hn => rw [hn] at hidle; exact hidle.trans (exec_statsKept h)
    · next hn => rw [hn] at hidle; cases h; exact hidle

/-- Settles O56: `step_statsKept` says it of each step, whatever command or event it runs. -/
theorem everyStepKeepsTheStatisticsSound : Obligations.EveryStepKeepsTheStatisticsSound := fun _ _ hs h =>
  step_statsKept h hs

end Sys2Proof.Machine
end

section
/-! The verdict of a RELEASE (R140), and the requests on statistics (R146, R147). -/
namespace Sys2Proof.Machine

/-! ## The verdict (R140) -/

theorem Checks.any_iff (c : Checks) : c.any = true ↔ c ≠ Checks.empty := by
  obtain ⟨runin, noise, leak⟩ := c
  cases runin <;> cases noise <;> cases leak <;> decide

/-- The lists of causes in section 5.2 are complete. -/
theorem RuninFailCause.listed (c : RuninFailCause) : c ∈ [RuninFailCause.torque, .oilTemp, .speed] := by
  cases c <;> decide

theorem RuninAbortCause.listed (c : RuninAbortCause) :
    c ∈ [RuninAbortCause.request, .guard, .stream, .channel, .angle] := by
  cases c <;> decide

theorem LeakFailCause.listed (c : LeakFailCause) : c ∈ [LeakFailCause.gross, .rate] := by
  cases c <;> decide

theorem LeakAbortCause.listed (c : LeakAbortCause) :
    c ∈ [LeakAbortCause.request, .pressureHigh, .stream, .channel] := by
  cases c <;> decide

theorem UnitRecord.failed_eq (u : UnitRecord) : u.failed =
    { runin := decide (∃ c ∈ [RuninFailCause.torque, .oilTemp, .speed], u.runin = .done (.fail c)),
      noise := decide (u.noise = .fail),
      leak := decide (∃ c ∈ [LeakFailCause.gross, .rate], u.leak = .done (.fail c)) } := by
  rw [UnitRecord.failed, Checks.mk.injEq]
  refine ⟨?_, rfl, ?_⟩ <;> split
  · next c hc => exact (decide_eq_true ⟨c, c.listed, hc⟩).symm
  · next hother => exact (decide_eq_false fun ⟨c, _, hc⟩ => hother c hc).symm
  · next c hc => exact (decide_eq_true ⟨c, c.listed, hc⟩).symm
  · next hother => exact (decide_eq_false fun ⟨c, _, hc⟩ => hother c hc).symm

theorem UnitRecord.incomplete_eq (u : UnitRecord) (required : Checks) : u.incomplete required =
    { runin := required.runin && decide (u.runin = .notRun ∨
        ∃ c ∈ [RuninAbortCause.request, .guard, .stream, .channel, .angle], u.runin = .done (.aborted c)),
      noise := required.noise && decide (u.noise = .notRun ∨ u.noise = .noResult),
      leak := required.leak && decide (u.leak = .notRun ∨
        ∃ c ∈ [LeakAbortCause.request, .pressureHigh, .stream, .channel], u.leak = .done (.aborted c)) } := by
  rw [UnitRecord.incomplete, Checks.mk.injEq]
  refine ⟨congrArg _ ?_, congrArg _ ?_, congrArg _ ?_⟩ <;> split
  · next hc => exact (decide_eq_true (.inl hc)).symm
  · next c hc => exact (decide_eq_true (.inr ⟨c, c.listed, hc⟩)).symm
  · next hnot hother => exact (decide_eq_false (not_or.2 ⟨hnot, fun ⟨c, _, hc⟩ => hother c hc⟩)).symm
  · next hc => exact (decide_eq_true (.inl hc)).symm
  · next hc => exact (decide_eq_true (.inr hc)).symm
  · next hnot hno => exact (decide_eq_false (not_or.2 ⟨hnot, hno⟩)).symm
  · next hc => exact (decide_eq_true (.inl hc)).symm
  · next c hc => exact (decide_eq_true (.inr ⟨c, c.listed, hc⟩)).symm
  · next hnot hother => exact (decide_eq_false (not_or.2 ⟨hnot, fun ⟨c, _, hc⟩ => hother c hc⟩)).symm

theorem verdictOf_eq (u : UnitRecord) (required : Checks) : verdictOf u required =
    if u.failed ≠ Checks.empty then (.reject, u.failed)
    else if u.incomplete required ≠ Checks.empty then (.incomplete, u.incomplete required)
    else (.accept, Checks.empty) := by
  simp only [verdictOf, Checks.any_iff]

/-! ## The requests (R146, R147) -/

theorem onStats_of_unbound {s : State} (h : s.tables = none) (slot : Nat) (f : Stats → Stats) :
    onStats slot f s = refuse s .notBound := by simp only [onStats, h]

theorem onStats_of_beyond {s : State} {t : Tables} (ht : s.tables = some t) {slot : Nat}
    (h : t.variants.length ≤ slot) (f : Stats → Stats) : onStats slot f s = refuse s .badValue := by
  simp only [onStats, ht, List.getElem?_eq_none h]

theorem onStats_answers {s : State} {t : Tables} {slot : Nat} {x : VariantSlot} (ht : s.tables = some t)
    (hx : t.variants[slot]? = some x) (f : Stats → Stats) : onStats slot f s =
      firstAnswer s [(x.record.isNone, .notFound)] (s.setTables
        (some { t with variants := modifyAt (fun _ => { x with stats := f x.stats }) t.variants slot })) := by
  simp only [onStats, setStats, ht, hx, modifyAt_const hx, firstAnswer_cons, ne_eq, reduceCtorEq, not_false_eq_true,
    firstAnswer_nil]

/-! ## The obligation -/

/-- Settles O41: the verdict by its two sets of checks, the statistics by the stages of a RELEASE, and both requests as
one operation on a slot's statistics. -/
theorem verdictsAreCountedAndHeld : Obligations.VerdictsAreCountedAndHeld := by
  refine ⟨fun u required => ?_, fun t threshold v u => ?_, fun s u verdict slot v stats t ht hlookup => ?_,
    fun s q slot => ?_⟩
  · intro failed missing
    have hfailed : failed = u.failed := u.failed_eq.symm
    have hmissing : missing = u.incomplete required := (u.incomplete_eq required).symm
    rw [hfailed, hmissing, verdictOf_eq]
  · intro n
    have hframe : n = _ := Stats.released_frame t threshold v u
    refine ⟨fun h => ?_, fun h => ?_, fun h => ?_, fun h => ?_⟩
    · rw [hframe, Stats.counted_of_lt h]
      exact ⟨rfl, rfl, rfl, rfl, rfl⟩
    · rw [hframe, Stats.counted_of_full h]
      exact ⟨rfl, rfl, rfl, rfl, rfl⟩
    · simp only [n, Stats.released_of_held h, and_true]
      rw [Stats.counted_frame]
      exact ⟨rfl, rfl, rfl, h, rfl⟩
    · obtain ⟨hrunin, hnoise, hleak⟩ := Stats.released_counters h threshold v u
      exact ⟨hrunin, hnoise, hleak, Stats.released_hold h threshold v u⟩
  · simp only [releaseStats, hlookup, setStats, ht]
  · intro answered
    have hanswered {r : Req} {c : Instr} {pick : Req → Option (State → State × Answer)} {f : Stats → Stats}
        (hc : ∀ s, exec c s = .next (executeKind s pick)) (hp : pick r = some (onStats slot f)) (h : s.takes q r) :
        answered c f :=
      ⟨fun hnone => answers_of_effect h (hc s) hp (onStats_of_unbound (s := dequeue s) hnone slot f),
        fun t ht hlen => answers_of_effect h (hc s) hp (onStats_of_beyond (s := dequeue s) ht hlen f),
        fun t x ht hx => answersFirst_of_firstAnswer h (hc s) hp (onStats_answers (s := dequeue s) ht hx f)⟩
    exact ⟨hanswered (f := Stats.unheld) (fun _ => rfl) rfl,
      hanswered (f := fun _ => Stats.zero) (fun _ => rfl) rfl⟩

end Sys2Proof.Machine
end

section
/-! The Notice Unit (R156, R157, R159, R160): raises, the notice that ranks first, and the requests SET_NOTICE and
CLEAR_NOTICE. -/
namespace Sys2Proof.Machine

/-! ## Raises (R156) -/

theorem NoticeRecord.raised_announced (r : NoticeRecord) (c : Context) : (r.raised c).announced = r.announced := by
  unfold NoticeRecord.raised
  split <;> rfl

theorem NoticeRecord.raised_of_quiet {r : NoticeRecord} (h : r.occurrence = none) (c : Context) :
    (r.raised c).occurrence = some { count := 1, context := c } := by simp only [NoticeRecord.raised, h]

theorem NoticeRecord.raised_of_pending {r : NoticeRecord} {o : Occurrence} (h : r.occurrence = some o) (c : Context) :
    (r.raised c).occurrence =
      some { count := if o.count < 255 then o.count + 1 else 255, context := o.context } := by
  simp only [NoticeRecord.raised, h, satSucc]

/-- Settles O15: a raise writes one source's record, as `NoticeRecord.raised` says. -/
theorem raiseStoresOrCounts : Obligations.RaiseStoresOrCounts := by
  intro s src bay serial detail hlen t
  obtain ⟨hsame, hother⟩ := s.notices.record_setRecord src
    ((s.notices.record src).raised { bay := bay, serial := serial, detail := detail }) hlen
  have hrecord : t.notices.record src = _ := hsame
  rw [hrecord]
  exact ⟨NoticeRecord.raised_announced _ _, fun h => NoticeRecord.raised_of_quiet h _,
    fun _ h => NoticeRecord.raised_of_pending h _, hother, rfl, rfl⟩

/-! ## The notice offered (R157) -/

theorem Notices.eligible_iff (u : Notices) (src : Source) : u.eligible src = true ↔
    (u.record src).occurrence ≠ none ∧ (u.record src).announced = false ∧
      u.settings.masked.getLsbD src.number = false ∧ u.settings.enable = true := by
  simp [Notices.eligible, Option.isSome_iff_ne_none, and_assoc]

/-- One source ranks before another: its group stands earlier in the programmed order, or they share the group and its
number is the lower. -/
def Notices.RanksBefore (u : Notices) (a b : Source) : Prop :=
  u.settings.groups.idxOf a.group < u.settings.groups.idxOf b.group ∨ (a.group = b.group ∧ a.number < b.number)

theorem Source.mem_all (src : Source) : src ∈ Source.all := by cases src <;> decide

theorem Source.all_ascends : Source.all.Pairwise (fun a b => a.number < b.number) := by decide

/-- Every source ranks, since every group is in the programmed order. -/
theorem Notices.mem_ranked {u : Notices} (hall : ∀ g : Group, g ∈ u.settings.groups) (src : Source) :
    src ∈ u.ranked := by
  simp [Notices.ranked, hall, Source.mem_all]

/-- In a list without repetitions, elements stand in the order of their indices. -/
theorem pairwise_idxOf_of_nodup {α : Type} [DecidableEq α] {xs : List α} (h : xs.Nodup) :
    xs.Pairwise (fun a b => xs.idxOf a < xs.idxOf b) := by
  refine List.pairwise_iff_getElem.2 fun i j hi hj hij => ?_
  rwa [h.idxOf_getElem i hi, h.idxOf_getElem j hj]

theorem Notices.ranked_pairwise {u : Notices} (hnodup : u.settings.groups.Nodup) :
    u.ranked.Pairwise u.RanksBefore := by
  refine List.pairwise_flatMap.2 ⟨fun g _ => ?_, (pairwise_idxOf_of_nodup hnodup).imp ?_⟩
  · refine (Source.all_ascends.filter _).imp_of_mem fun ha hb hlt => .inr ⟨?_, hlt⟩
    simp only [List.mem_filter, decide_eq_true_eq] at ha hb
    rw [ha.2, hb.2]
  · intro g g' hlt a ha b hb
    simp only [List.mem_filter, decide_eq_true_eq] at ha hb
    refine .inl ?_
    rwa [ha.2, hb.2]

/-- What a search finds in an ordered list comes before everything else that it could have found. -/
theorem first_of_find? {α : Type} {R : α → α → Prop} {p : α → Bool} {xs : List α} {x y : α} (hxs : xs.Pairwise R)
    (hx : xs.find? p = some x) (hy : y ∈ xs) (hp : p y = true) : y = x ∨ R x y := by
  obtain ⟨-, before, after, rfl, hbefore⟩ := List.find?_eq_some_iff_append.1 hx
  obtain hy | rfl | hy : y ∈ before ∨ y = x ∨ y ∈ after := by simpa using hy
  · simpa [hp] using hbefore y hy
  · exact .inl rfl
  · exact .inr (List.rel_of_pairwise_cons (List.pairwise_append.1 hxs).2.1 hy)

/-- Settles O16: every source is in the ranking, and the search through it finds the first that is eligible. -/
theorem offeredNoticeRanksFirst : Obligations.OfferedNoticeRanksFirst := by
  intro u hnodup hall
  have hmem := Notices.mem_ranked hall
  refine ⟨u.eligible_iff, ?_, fun src hsrc => ⟨List.find?_some hsrc, fun other hother => ?_⟩⟩
  · simp [Notices.offer, hmem]
  · exact first_of_find? (Notices.ranked_pairwise hnodup) hsrc (hmem other) hother

/-! ## SET_NOTICE (R160) and CLEAR_NOTICE (R159) -/

/-- Numbers that pass as settings fit the widths of SET_NOTICE's fields. -/
theorem settingsOf_fits {fields : List Nat} {x : NoticeSettings} (h : settingsOf fields = some x) :
    Fits settingsWidths fields := by
  unfold settingsOf at h
  split at h
  case h_2 => cases h
  next masked enable g0 g1 g2 c0 c1 c2 =>
  split at h
  case h_2 => cases h
  next on groups classes hon hgroups hclasses =>
  simp only [Option.ite_none_right_eq_some] at h
  obtain ⟨⟨hmasked, -, -⟩, -⟩ := h
  obtain ⟨hgcodes, -⟩ := (allOf_reads groupOf_reads _ groups).1 ⟨fun _ _ => trivial, hgroups⟩
  obtain ⟨hccodes, -⟩ := (allOf_reads outClassOf_reads _ classes).1 ⟨fun _ _ => trivial, hclasses⟩
  have hon : enable ≤ 1 := by rw [boolOf_iff.1 hon]; split <;> decide
  have hg : ∀ n ∈ [g0, g1, g2], n ≤ 2 := by simp [hgcodes, Group.code_le]
  have hc : ∀ n ∈ [c0, c1, c2], n ≤ 2 := by simp [hccodes, OutClass.code_le]
  simp only [List.forall_mem_cons, List.not_mem_nil, false_imp_iff, implies_true, and_true] at hg hc
  simp only [settingsWidths, Fits, Nat.reducePow, and_true]
  omega

theorem settingsOf_inRange {fields : List Nat} {x : NoticeSettings} (h : settingsOf fields = some x) : x.InRange :=
  ((settingsOf_reads fields x).1 ⟨settingsOf_fits h, h⟩).2

theorem clearNamed_getElem? (named : BitVec 16) (k : Nat) (rs : List NoticeRecord) (i : Nat) :
    (clearNamed named k rs)[i]? =
      rs[i]?.map fun r => if named.getLsbD (k + i) then NoticeRecord.quiet else r := by
  induction rs generalizing k i with
  | nil => simp [clearNamed]
  | cons r rs ih =>
    cases i with
    | zero => simp [clearNamed]
    | succ i => simp [clearNamed, ih, Nat.add_right_comm k 1 i, Nat.add_assoc]

theorem clearNotice_answers (named : BitVec 16) (s : State) : clearNotice named s = firstAnswer s
    [(decide (named = 0), .badValue), (decide (16384 ≤ named.toNat), .badValue)]
    (s.setNotices { s.notices with records := clearNamed named 0 s.notices.records }) := by
  simp only [clearNotice, firstAnswer_cons, ne_eq, reduceCtorEq, not_false_eq_true, firstAnswer_nil,
    decide_eq_true_eq, ite_or]

/-- Settles O17: both requests by their effects, and the cleared records one by one (`clearNamed_getElem?`). -/
theorem noticeRequestsSetAndClear : Obligations.NoticeRequestsSetAndClear := by
  refine ⟨fun s q x h => answers_of_effect h rfl rfl rfl, fun s q h => answers_of_effect h rfl rfl rfl,
    fun fields x h => ?_, fun s q named h => ⟨_, answersFirst_of_firstAnswer h rfl rfl (clearNotice_answers _ _),
      rfl, rfl, clearNamed_length _ _ _, fun i r hr => ?_⟩⟩
  · obtain ⟨hglen, hgroups, hclen, hclasses⟩ := settingsOf_inRange h
    exact ⟨hgroups, hglen, hclasses, hclen⟩
  · have hr : (dequeue s).notices.records[i]? = some r := hr
    simp only [State.setNotices_notices, clearNamed_getElem?, hr, Option.map_some, Nat.zero_add, NoticeRecord.quiet]

end Sys2Proof.Machine
end

section
/-! An idle step (R172), and the rows in which a waiting request is executed (R166, R167). -/
namespace Sys2Proof.Machine

/-! ## With no command waiting -/

theorem dueEvents_of_held {s : State} (h : s.pins.resetHeld = true) : dueEvents s = [] := by simp [dueEvents, h]

theorem step_of_no_event {s : State} (h : s.pending = []) (hd : dueEvents s = []) :
    step s = .next (if s.pins.resetHeld then s else tick s) := by
  simp only [step, h, idleNext, hd]

theorem step_of_one_event {s : State} {c : Instr} (h : s.pending = []) (hd : dueEvents s = [c]) :
    step s = exec c s := by
  simp only [step, h, idleNext, hd]

/-- With several events due, the free value names a place in the list of them. -/
theorem step_of_events {s : State} {c d : Instr} {more : List Instr} (h : s.pending = [])
    (hd : dueEvents s = c :: d :: more) :
    step s = exec ((c :: d :: more).getD (Config.idleChoice s.freeCount % (c :: d :: more).length) c)
      (s.setFreeCount (s.freeCount + 1)) := by
  simp only [step, h, idleNext, hd]

theorem getD_mod_mem {α : Type} (x : α) (xs : List α) (i : Nat) :
    (x :: xs).getD (i % (x :: xs).length) x ∈ x :: xs := by
  have hi : i % (x :: xs).length < (x :: xs).length := Nat.mod_lt _ (by simp)
  rw [List.getD_eq_getElem _ _ hi]
  exact List.getElem_mem hi

/-- Settles O2: the list of due events is empty, has one member, or has several of which one is chosen. -/
theorem idleStepTakesADueEventOrCounts : Obligations.IdleStepTakesADueEventOrCounts := by
  intro s hp
  refine ⟨fun hheld => ?_, fun hheld hd => ?_, fun hd => ?_⟩
  · rw [step_of_no_event hp (dueEvents_of_held hheld), if_pos hheld]
  · rw [step_of_no_event hp hd, hheld]
    rfl
  · match hdue : dueEvents s with
    | [] => exact absurd hdue hd
    | [c] => exact ⟨c, List.mem_singleton_self c, s.freeCount, .inl rfl, step_of_one_event hp hdue⟩
    | c :: d :: more => exact ⟨_, getD_mod_mem c (d :: more) _, _, .inr rfl, step_of_events hp hdue⟩

/-! ## The oldest request (R166) -/

theorem oldest_iff (s : State) (q : Request) : s.oldest = some q ↔
    s.mayExecute = true ∧ s.requests.queue.head? = some q :=
  ⟨oldest_eq_some, fun ⟨hmay, hq⟩ => by rw [State.oldest, if_pos hmay, hq]⟩

/-- A request row is BAD_REQUEST, RESET, or one that picks out its kind. -/
theorem requestRows_cases : ∀ c ∈ requestRows, c = .badRequest ∨ c = .reset ∨ (pickOf c).isSome = true := by decide

/-- A row picks out only the requests whose row it is. -/
theorem row_of_pickOf {c : Instr} {pick : Req → Option (State → State × Answer)} (h : pickOf c = some pick) {r : Req}
    {effect : State → State × Answer} (hp : pick r = some effect) : r.row = c := by
  unfold pickOf at h
  split at h <;> cases h
  all_goals
    simp only [pickBind, pickReadStatus, pickSetNotice, pickClearNotice, pickLoadStream, pickLoadChannel,
      pickChannelEnable, pickClearChannel, pickReadChannel, pickReadAngle, pickClearAngle, pickLoadStand,
      pickLoadVariant, pickLoadProfile, pickLoadOrderSet, pickSwapOrderSet, pickReadTable, pickAdmitUnit,
      pickAdvanceA, pickAdvanceB, pickRelease, pickWithdraw, pickReadUnit, pickStartSpin, pickAbortSpin,
      pickClearFaultA, pickStartLeak, pickAbortLeak, pickClearFaultB, pickReadStats, pickClearStats,
      pickReleaseVariant] at hp
    split at hp
    · rfl
    · cases hp

theorem Request.row_of_error {q : Request} {c : Code} (h : q.form = .error c) : q.row = .badRequest := by
  simp only [Request.row, h]

theorem Request.row_of_ok {q : Request} {r : Req} (h : q.form = .ok r) : q.row = r.row := by
  simp only [Request.row, h]

/-- BAD_REQUEST executes only an ill-formed request. -/
theorem executeBad_cases (s : State) :
    executeBad s = s ∨ ∃ q, s.oldest = some q ∧ q.row = .badRequest := by
  unfold executeBad
  split
  · exact .inl rfl
  · next q hq =>
    split
    · exact .inl rfl
    · next hf => exact .inr ⟨q, hq, Request.row_of_error hf⟩

/-- RESET executes only a request of its kind. -/
theorem executeReset_cases (s : State) :
    executeReset s = s ∨ ∃ q, s.oldest = some q ∧ q.row = .reset := by
  unfold executeReset
  split
  · exact .inl rfl
  · next q hq =>
    split
    · next hf => exact .inr ⟨q, hq, Request.row_of_ok hf⟩
    · exact .inl rfl

/-- A request row does nothing, or it is the row of the oldest request, which may begin. -/
theorem exec_requestRow_cases {c : Instr} (hc : c ∈ requestRows) (s : State) :
    exec c s = .next s ∨ ∃ q, s.oldest = some q ∧ q.row = c := by
  rcases requestRows_cases c hc with rfl | rfl | hpick
  · exact (executeBad_cases s).imp_left (congrArg _)
  · exact (executeReset_cases s).imp_left (congrArg _)
  · obtain ⟨pick, hpick⟩ := Option.isSome_iff_exists.1 hpick
    rw [exec_of_pickOf hpick]
    rcases executeKind_cases s pick with he | ⟨q, r, effect, hq, hf, hp, -⟩
    · exact .inl (congrArg _ he)
    · exact .inr ⟨q, hq, (Request.row_of_ok hf).trans (row_of_pickOf hpick hp)⟩

theorem badRequest_answers {s : State} {q : Request} {c : Code} (h : s.oldest = some q) (hf : q.form = .error c) :
    answers .badRequest s q (refusal c) (dequeue s) := by
  simp only [answers, exec, execBadRequest, executeBad, h, hf, executeOne, refuse, refusal]

/-- Settles O20: a request row acts only as the row of the oldest request (`exec_requestRow_cases`). -/
theorem requestsWaitForTheirTurn : Obligations.RequestsWaitForTheirTurn := by
  refine ⟨fun s q => ?_, fun s c hc hnone => ?_, fun s q c hc hq hne => ?_, fun s q c => badRequest_answers⟩
  · rw [oldest_iff, mayExecute_iff]
    simp only [and_assoc]
  · refine (exec_requestRow_cases hc s).resolve_right ?_
    rintro ⟨q, hq, -⟩
    cases hnone.symm.trans hq
  · refine (exec_requestRow_cases hc s).resolve_right ?_
    rintro ⟨p, hp, hrow⟩
    cases hq.symm.trans hp
    exact hne hrow.symm

end Sys2Proof.Machine
end

section
/-! The request queue (R165) and the parts of a request (R177). -/
namespace Sys2Proof.Machine

/-! ## The request queue -/

theorem enqueueRequest_of_room {s : State} (q : Request) (h : s.requests.queue.length < 4) :
    enqueueRequest s q = s.setRequests { s.requests with queue := s.requests.queue ++ [q] } := if_pos h

theorem enqueueRequest_of_full {s : State} (q : Request) (h : 4 ≤ s.requests.queue.length) :
    enqueueRequest s q = raise s .requestOverrun none none (.overrun (overrunTag q.head) q.src) := if_neg (by omega)

/-! ## The assembly timeout -/

theorem assemblyDue_of_open {s : State} {a : Assembly} (h : s.requests.assembly = some a) :
    s.assemblyDue = decide (100 ≤ elapsed s.timeBase a.since) := by
  simp only [State.assemblyDue, h]

theorem assemblyExpires_of_open {s : State} {a : Assembly} (h : s.requests.assembly = some a) :
    assemblyExpires s = enqueueRequest (s.setRequests { s.requests with assembly := none }) a.broken := by
  simp only [assemblyExpires, h]

theorem assemblyTimeout_happens {s : State} {a : Assembly} (hheld : s.pins.resetHeld = false)
    (h : s.requests.assembly = some a) (hdue : 100 ≤ elapsed s.timeBase a.since) :
    happens .assemblyTimeout s (enqueueRequest (s.setRequests { s.requests with assembly := none }) a.broken) := by
  rw [← assemblyExpires_of_open h]
  exact happens_of_whenDue rfl hheld (by rw [assemblyDue_of_open h]; exact decide_eq_true hdue)

theorem assemblyTimeout_of_early {s : State} {a : Assembly} (h : s.requests.assembly = some a)
    (hearly : elapsed s.timeBase a.since < 100) : exec .assemblyTimeout s = .next s :=
  congrArg _ (whenDue_of_not_due (by rw [assemblyDue_of_open h]; exact decide_eq_false (by omega)) _)

/-! ## Parts -/

theorem partOf_short {src : Nat} {payload : List Byte} (h : payload.length < 4) : partOf src payload = none := by
  unfold partOf
  split
  · simp only [List.length_cons] at h
    omega
  · rfl

theorem partOf_long (src : Nat) (t0 t1 k p : Byte) (args : List Byte) : partOf src (t0 :: t1 :: k :: p :: args) =
    some { src := src, head := [t0, t1, k], index := highNibble p, total := lowNibble p, args := args } := rfl

theorem handlePart_short (open_ : Option Assembly) (now : Time) (src : Nat) {payload : List Byte}
    (h : payload.length < 4) : handlePart open_ now src payload =
      { requests := [shortRequest src payload], assembly := open_, dropped := false } := by
  simp only [handlePart, partOf_short h]

theorem Part.continues_iff (p : Part) (a : Assembly) : p.continues a = true ↔
    p.src = a.src ∧ p.head = a.head ∧ p.total = a.total ∧ p.index = a.next := by
  simp [Part.continues, and_assoc]

section
variable {open_ : Option Assembly} {a : Assembly} {now : Time} {src : Nat} {payload : List Byte} {p : Part}

theorem handlePart_whole (hp : partOf src payload = some p) (hindex : p.index = 0) (htotal : p.total = 1) :
    handlePart open_ now src payload =
      { requests := [{ src := src, head := p.head, args := some p.args }], assembly := open_, dropped := false } := by
  simp only [handlePart, hp, hindex, htotal, and_self, if_true]

/-- A first part opens an assembly, and breaks the one that is open. -/
theorem handlePart_first (hp : partOf src payload = some p) (hindex : p.index = 0) (htotal : 2 ≤ p.total) :
    handlePart open_ now src payload =
      { requests := (open_.map Assembly.broken).toList, assembly := some (p.opened now), dropped := false } := by
  have hwhole : p.total ≠ 1 := by omega
  simp only [handlePart, hp, hindex, hwhole, and_false, if_false, htotal, and_self, if_true]

/-- A part that is neither a whole request nor a first part. -/
theorem Part.not_first {p : Part} (h : ¬(p.index = 0 ∧ 1 ≤ p.total)) :
    ¬(p.index = 0 ∧ p.total = 1) ∧ ¬(p.index = 0 ∧ 2 ≤ p.total) := by omega

theorem handlePart_stray (hp : partOf src payload = some p) (hfirst : ¬(p.index = 0 ∧ 1 ≤ p.total)) :
    handlePart none now src payload = { requests := [], assembly := none, dropped := true } := by
  obtain ⟨hwhole, hopens⟩ := p.not_first hfirst
  simp only [handlePart, hp, hwhole, hopens, if_false]

theorem handlePart_joins (hp : partOf src payload = some p) (hfirst : ¬(p.index = 0 ∧ 1 ≤ p.total))
    (hcont : p.continues a = true) (hmore : a.next + 1 ≠ a.total) :
    handlePart (some a) now src payload =
      { requests := [], dropped := false,
        assembly := some { a with args := a.args ++ p.args, next := a.next + 1, since := now } } := by
  obtain ⟨hwhole, hopens⟩ := p.not_first hfirst
  simp only [handlePart, hp, hwhole, hopens, if_false, hcont, if_true, hmore]

theorem handlePart_completes (hp : partOf src payload = some p) (hfirst : ¬(p.index = 0 ∧ 1 ≤ p.total))
    (hcont : p.continues a = true) (hlast : a.next + 1 = a.total) :
    handlePart (some a) now src payload =
      { requests := [{ src := a.src, head := a.head, args := some (a.args ++ p.args) }], assembly := none,
        dropped := false } := by
  obtain ⟨hwhole, hopens⟩ := p.not_first hfirst
  simp only [handlePart, hp, hwhole, hopens, if_false, hcont, if_true, hlast]

theorem handlePart_breaks (hp : partOf src payload = some p) (hfirst : ¬(p.index = 0 ∧ 1 ≤ p.total))
    (hcont : ¬p.continues a = true) :
    handlePart (some a) now src payload = { requests := [a.broken], assembly := none, dropped := true } := by
  obtain ⟨hwhole, hopens⟩ := p.not_first hfirst
  simp only [handlePart, hp, hwhole, hopens, if_false, hcont]
  rfl

end

/-- Settles O19: the queue, the timeout, and a part by its case (`handlePart_short` to `handlePart_breaks`). -/
theorem requestPartsJoinAndQueue : Obligations.RequestPartsJoinAndQueue := by
  refine ⟨fun s q => enqueueRequest_of_room q, fun s q => enqueueRequest_of_full q,
    fun s a hheld ha => ⟨assemblyTimeout_happens hheld ha, assemblyTimeout_of_early ha⟩, fun s src payload => rfl,
    fun open_ now src payload => handlePart_short open_ now src, fun open_ now src t0 t1 k p args => ?_,
    fun now src t0 t1 k p args => ?_, fun a now t0 t1 k p args hhead htotal hindex hne hmore => ?_,
    fun a now t0 t1 k p args hhead htotal hindex hne hlast => ?_, fun now src t0 t1 k p args => ?_,
    fun a now src t0 t1 k p args => ?_, fun a now src t0 t1 k p args hfirst hcont => ?_⟩
  · exact handlePart_whole (partOf_long src t0 t1 k p args)
  · exact handlePart_first (partOf_long src t0 t1 k p args)
  · exact handlePart_joins (partOf_long a.src t0 t1 k p args) (fun h => hne (hindex.symm.trans h.1))
      ((Part.continues_iff _ a).2 ⟨rfl, hhead.symm, htotal, hindex⟩) hmore
  · exact handlePart_completes (partOf_long a.src t0 t1 k p args) (fun h => hne (hindex.symm.trans h.1))
      ((Part.continues_iff _ a).2 ⟨rfl, hhead.symm, htotal, hindex⟩) hlast
  · exact handlePart_stray (partOf_long src t0 t1 k p args)
  · exact handlePart_first (open_ := some a) (partOf_long src t0 t1 k p args)
  · refine handlePart_breaks (partOf_long src t0 t1 k p args) hfirst fun h => hcont ?_
    obtain ⟨hsrc, hhead, htotal, hindex⟩ := (Part.continues_iff _ a).1 h
    exact ⟨hsrc, hhead.symm, htotal, hindex⟩

end Sys2Proof.Machine
end

section
/-! The form check by the lengths of the arguments (R167, R176). -/
namespace Sys2Proof.Machine

/-! ## Bytes of the right length are the bytes of some fields -/

theorem encFields_length {widths ns : List Nat} (h : Fits widths ns) : (encFields widths ns).length = widths.sum := by
  induction widths generalizing ns with
  | nil => rfl
  | cons w ws ih =>
    match ns, h with
    | n :: ns, ⟨_, hns⟩ => simp [encFields, ih hns]

theorem exists_fields {widths : List Nat} {bytes : List Byte} (h : bytes.length = widths.sum) :
    ∃ ns, Fits widths ns ∧ bytes = encFields widths ns := by
  induction widths generalizing bytes with
  | nil => exact ⟨[], trivial, List.eq_nil_of_length_eq_zero h⟩
  | cons w ws ih =>
    rw [List.sum_cons] at h
    have hw : (bytes.take w).length = w := by rw [List.length_take]; omega
    obtain ⟨ns, hfit, hrest⟩ := ih (bytes := bytes.drop w) (by rw [List.length_drop]; omega)
    refine ⟨decNat (bytes.take w) :: ns, ⟨?_, hfit⟩, ?_⟩
    · simpa only [hw] using decNat_lt (bytes.take w)
    · have hnum := encNat_decNat (bytes.take w)
      rw [hw] at hnum
      rw [encFields, hnum, ← hrest, List.take_append_drop]

theorem rows_length {widths : List Nat} {rows : List (List Nat)} (h : ∀ row ∈ rows, Fits widths row) :
    (rows.flatMap (encFields widths)).length = widths.sum * rows.length := by
  induction rows with
  | nil => rfl
  | cons row rows ih =>
    obtain ⟨hrow, hrows⟩ := List.forall_mem_cons.1 h
    rw [List.flatMap_cons, List.length_append, encFields_length hrow, ih hrows, List.length_cons, Nat.mul_succ,
      Nat.add_comm]

theorem exists_rows {widths : List Nat} {count : Nat} {bytes : List Byte} (h : bytes.length = widths.sum * count) :
    ∃ rows : List (List Nat), rows.length = count ∧ (∀ row ∈ rows, Fits widths row) ∧
      bytes = rows.flatMap (encFields widths) := by
  induction count generalizing bytes with
  | zero => exact ⟨[], rfl, fun _ h => (List.not_mem_nil h).elim, List.eq_nil_of_length_eq_zero h⟩
  | succ count ih =>
    rw [Nat.mul_succ] at h
    obtain ⟨row, hrow, hbytes⟩ := exists_fields (widths := widths) (bytes := bytes.take widths.sum)
      (by rw [List.length_take]; omega)
    obtain ⟨rows, hlen, hrows, hrest⟩ := ih (bytes := bytes.drop widths.sum) (by rw [List.length_drop]; omega)
    refine ⟨row :: rows, by rw [List.length_cons, hlen], List.forall_mem_cons.2 ⟨hrow, hrows⟩, ?_⟩
    rw [List.flatMap_cons, ← hbytes, ← hrest, List.take_append_drop]

theorem exists_fields_iff {widths : List Nat} {bytes : List Byte} :
    (∃ ns, Fits widths ns ∧ bytes = encFields widths ns) ↔ bytes.length = widths.sum :=
  ⟨fun ⟨_, hfit, hbytes⟩ => hbytes ▸ encFields_length hfit, exists_fields⟩

/-- Bytes followed by a counted list of rows: as long as the count byte says. -/
theorem exists_counted_iff {widths : List Nat} {n : Nat} {bytes : List Byte} :
    (∃ (head : List Byte) (rows : List (List Nat)), head.length = n ∧ rows.length < 256 ∧
      (∀ row ∈ rows, Fits widths row) ∧ bytes = head ++ (enc1 rows.length ++ rows.flatMap (encFields widths))) ↔
    n + 1 ≤ bytes.length ∧ bytes.length = n + 1 + widths.sum * (bytes.getD n 0).toNat := by
  constructor
  · rintro ⟨head, rows, rfl, hcount, hrows, rfl⟩
    have hbyte : (head ++ (enc1 rows.length ++ rows.flatMap (encFields widths))).getD head.length 0 =
        byteOf rows.length := by simp [enc1]
    rw [hbyte, toNat_byteOf hcount]
    simp only [List.length_append, rows_length hrows, enc1, List.length_singleton]
    omega
  · rintro ⟨hn, hlen⟩
    have hn : n < bytes.length := hn
    rw [List.getD_eq_getElem _ _ hn] at hlen
    obtain ⟨rows, hcount, hrows, hrest⟩ := exists_rows (bytes := bytes.drop (n + 1)) (widths := widths)
      (count := bytes[n].toNat) (by rw [List.length_drop]; omega)
    refine ⟨bytes.take n, rows, by rw [List.length_take]; omega, hcount ▸ bytes[n].isLt, hrows, ?_⟩
    rw [hcount, ← hrest, enc1, byteOf_toNat, List.singleton_append, ← List.drop_eq_getElem_cons hn,
      List.take_append_drop]

/-! ## Requests of fixed length -/

/-- The reader passes arguments of `n` bytes and refuses any others as BAD_REQUEST. -/
def PassesAt (n : Nat) (read : List Byte → Except Code Req) : Prop :=
  ∀ args, read args ≠ .error .badRequest ↔ args.length = n

theorem fixedFields_passes (widths : List Nat) (f : List Nat → Req) : PassesAt widths.sum (fixedFields widths f) := by
  intro args
  rw [← exists_fields_iff]
  constructor
  · intro h
    obtain ⟨ns, hfit, hargs, -⟩ := fixedFields_legal h
    exact ⟨ns, hfit, hargs⟩
  · rintro ⟨ns, hfit, hargs⟩
    rw [fixedFields_iff.2 ⟨ns, hfit, hargs, rfl⟩]
    exact nofun

theorem noArgument_passes (r : Req) : PassesAt 0 (noArgument r) := by
  intro args
  cases args <;> simp [noArgument]

theorem oneByte_passes (f : Nat → Req) : PassesAt 1 (oneByte f) := by
  rintro (_ | ⟨b, _ | ⟨c, rest⟩⟩) <;> simp [oneByte]

theorem bayArgument_passes (f : Bay → Req) : PassesAt 1 (bayArgument f) := by
  rintro (_ | ⟨b, _ | ⟨c, rest⟩⟩)
  · simp [bayArgument]
  · simp only [bayArgument, List.length_singleton, iff_true]
    split <;> exact nofun
  · simp [bayArgument]

theorem ofLength_passes (n : Nat) (f : List Byte → Req) :
    PassesAt n (fun args => if args.length = n then .ok (f args) else .error .badRequest) := by
  intro args
  dsimp only
  split <;> simp_all

/-- Each kind of fixed length, with its length. -/
theorem readArguments_passes : ∀ kn ∈ [(0x01, 5), (0x02, 0), (0x03, 0), (0x08, 9), (0x09, 2), (0x11, 23), (0x12, 3),
    (0x13, 1), (0x14, 2), (0x18, 0), (0x19, 0), (0x20, 26), (0x21, 44), (0x24, 1), (0x30, 18), (0x31, 1), (0x32, 0),
    (0x33, 16), (0x34, 18), (0x40, 0), (0x41, 0), (0x42, 1), (0x48, 0), (0x49, 0), (0x50, 1), (0x51, 1), (0x52, 1)],
    PassesAt kn.2 (readArguments kn.1) := by
  simp only [List.forall_mem_cons]
  exact ⟨fixedFields_passes [1, 1, 1, 1, 1] _, noArgument_passes _, noArgument_passes _,
    fixedFields_passes [2, 1, 1, 1, 1, 1, 1, 1] _, fixedFields_passes [2] _, fixedFields_passes channelWidths _,
    fixedFields_passes [1, 1, 1] _, oneByte_passes _, fixedFields_passes [1, 1] _, noArgument_passes _,
    noArgument_passes _, fixedFields_passes standWidths _, fixedFields_passes variantWidths _, oneByte_passes _,
    ofLength_passes 18 _, bayArgument_passes _, noArgument_passes _, ofLength_passes 16 _, ofLength_passes 18 _,
    noArgument_passes _, noArgument_passes _, bayArgument_passes _, noArgument_passes _, noArgument_passes _,
    oneByte_passes _, oneByte_passes _, oneByte_passes _, nofun⟩

theorem bayArgument_refuses (f : Bay → Req) {b : Byte} (h1 : b ≠ 1) (h2 : b ≠ 2) :
    bayArgument f [b] = .error .badValue := by
  have hbay : bayOf b.toNat = none := by
    refine Option.eq_none_iff_forall_ne_some.2 fun bay hbay => ?_
    have hb := bayOf_iff.1 hbay
    cases bay
    · exact h1 (BitVec.eq_of_toNat_eq hb)
    · exact h2 (BitVec.eq_of_toNat_eq hb)
  simp only [bayArgument, hbay]

/-! ## Requests with a list -/

theorem readLoadStream_passes (args : List Byte) : readLoadStream args ≠ .error .badRequest ↔
    12 ≤ args.length ∧ args.length = 12 + (args.getD 11 0).toNat := by
  have hcounted := exists_counted_iff (widths := [1]) (n := 11) (bytes := args)
  rw [List.sum_singleton, Nat.one_mul] at hcounted
  rw [← hcounted]
  constructor
  · intro h
    unfold readLoadStream at h
    split at h
    case h_1 => exact absurd rfl h
    next ns rest hns =>
    split at h
    case h_2 => exact absurd rfl h
    next rows hrows =>
    obtain ⟨hfit, rfl⟩ := takeFields_iff.1 hns
    obtain ⟨hcount, hrowsFit, rfl⟩ := takeCounted_iff.1 hrows
    exact ⟨_, rows, encFields_length hfit, hcount, hrowsFit, by rw [List.append_nil]⟩
  · rintro ⟨head, rows, hhead, hcount, hrowsFit, rfl⟩
    obtain ⟨ns, hfit, rfl⟩ := exists_fields (widths := streamWidths) hhead
    have hns := takeFields_iff.2 ⟨hfit,
      rfl (a := encFields streamWidths ns ++ (enc1 rows.length ++ rows.flatMap (encFields [1])))⟩
    have hrows : takeCounted [1] (enc1 rows.length ++ rows.flatMap (encFields [1])) = some (rows, []) :=
      takeCounted_iff.2 ⟨hcount, hrowsFit, (List.append_nil _).symm⟩
    simp only [readLoadStream, hns, hrows]
    exact nofun

theorem readLoadProfile_passes (args : List Byte) : readLoadProfile args ≠ .error .badRequest ↔
    2 ≤ args.length ∧ args.length = 2 + 15 * (args.getD 1 0).toNat := by
  have hcounted := exists_counted_iff (widths := segmentWidths) (n := 1) (bytes := args)
  rw [show segmentWidths.sum = 15 from rfl] at hcounted
  rw [← hcounted]
  constructor
  · intro h
    unfold readLoadProfile at h
    split at h
    case h_2 => exact absurd rfl h
    next p rest =>
    split at h
    case h_2 => exact absurd rfl h
    next rows hrows =>
    obtain ⟨hcount, hfit, rfl⟩ := takeCounted_iff.1 hrows
    exact ⟨[p], rows, rfl, hcount, hfit, by rw [List.append_nil, List.singleton_append]⟩
  · rintro ⟨head, rows, hhead, hcount, hfit, rfl⟩
    obtain ⟨p, rfl⟩ := List.length_eq_one_iff.1 hhead
    have hrows : takeCounted segmentWidths (enc1 rows.length ++ rows.flatMap (encFields segmentWidths)) =
        some (rows, []) := takeCounted_iff.2 ⟨hcount, hfit, (List.append_nil _).symm⟩
    simp only [List.singleton_append, readLoadProfile, hrows]
    exact nofun

/-! ## LOAD_ORDER_SET -/

/-- An order's fields and its curve points, by their bytes, are as long as section 4.5 says. -/
def OrderBytesFit (o : List Byte × List Byte) : Prop :=
  o.1.length = 6 ∧ o.2.length % 4 = 0 ∧ o.2.length / 4 < 256

/-- An order by its bytes: fields, the count of its curve points, and the points. -/
def orderBytes (o : List Byte × List Byte) : List Byte := o.1 ++ (byteOf (o.2.length / 4) :: o.2)

/-- The fields and the points of an order, each as bytes. -/
def orderRowParts (row : List Nat × List (List Nat)) : List Byte × List Byte :=
  (encFields [1, 1, 4] row.1, row.2.flatMap (encFields [2, 2]))

theorem orderRowParts_length {row : List Nat × List (List Nat)} (h : OrderRowFits row) :
    (orderRowParts row).1.length = 6 ∧ (orderRowParts row).2.length = 4 * row.2.length := by
  obtain ⟨hfields, -, hpoints⟩ := h
  exact ⟨encFields_length hfields, rows_length hpoints⟩

theorem orderRowParts_fit {row : List Nat × List (List Nat)} (h : OrderRowFits row) :
    OrderBytesFit (orderRowParts row) := by
  obtain ⟨hfields, hpoints⟩ := orderRowParts_length h
  obtain ⟨-, hcount, -⟩ := h
  refine ⟨hfields, ?_, ?_⟩ <;> rw [hpoints] <;> omega

theorem orderBytes_parts {row : List Nat × List (List Nat)} (h : OrderRowFits row) :
    orderBytes (orderRowParts row) = orderRowBytes row := by
  obtain ⟨-, hpoints⟩ := orderRowParts_length h
  rw [orderBytes, hpoints, Nat.mul_div_cancel_left _ (by decide)]
  simp [orderRowParts, orderRowBytes, enc1]

theorem exists_orderRow {o : List Byte × List Byte} (h : OrderBytesFit o) :
    ∃ row, OrderRowFits row ∧ orderRowParts row = o := by
  obtain ⟨hfields, hmod, hcount⟩ := h
  obtain ⟨ns, hns, hfieldBytes⟩ := exists_fields (widths := [1, 1, 4]) hfields
  obtain ⟨points, hlen, hpoints, hpointBytes⟩ :=
    exists_rows (widths := [2, 2]) (count := o.2.length / 4) (bytes := o.2)
      (by simp only [List.sum_cons, List.sum_nil]; omega)
  exact ⟨(ns, points), ⟨hns, hlen ▸ hcount, hpoints⟩, Prod.ext hfieldBytes.symm hpointBytes.symm⟩

theorem exists_orderRows {orders : List (List Byte × List Byte)} (h : ∀ o ∈ orders, OrderBytesFit o) :
    ∃ rows : List (List Nat × List (List Nat)), (∀ row ∈ rows, OrderRowFits row) ∧ rows.map orderRowParts = orders := by
  induction orders with
  | nil => exact ⟨[], fun _ h => (List.not_mem_nil h).elim, rfl⟩
  | cons o orders ih =>
    obtain ⟨ho, horders⟩ := List.forall_mem_cons.1 h
    obtain ⟨row, hrow, rfl⟩ := exists_orderRow ho
    obtain ⟨rows, hrows, rfl⟩ := ih horders
    exact ⟨row :: rows, List.forall_mem_cons.2 ⟨hrow, hrows⟩, rfl⟩

theorem orderRows_bytes {rows : List (List Nat × List (List Nat))} (h : ∀ row ∈ rows, OrderRowFits row) :
    (rows.map orderRowParts).flatMap orderBytes = rows.flatMap orderRowBytes := by
  rw [List.flatMap_map]
  exact List.flatMap_congr fun row hrow => orderBytes_parts (h row hrow)

theorem readLoadOrderSet_passes (args : List Byte) : readLoadOrderSet args ≠ .error .badRequest ↔
    ∃ (head channels : List Byte) (orders : List (List Byte × List Byte)),
      head.length = 6 ∧ channels.length < 256 ∧ orders.length < 256 ∧ (∀ o ∈ orders, OrderBytesFit o) ∧
      args = head ++ (byteOf channels.length :: channels) ++ (byteOf orders.length :: orders.flatMap orderBytes) := by
  constructor
  · intro h
    unfold readLoadOrderSet at h
    split at h
    case h_1 => exact absurd rfl h
    next ns rest hns =>
    split at h
    case h_2 => exact absurd rfl h
    next rows b rest' hrows =>
    split at h
    case h_2 => exact absurd rfl h
    next orders horders =>
    obtain ⟨hfit, rfl⟩ := takeFields_iff.1 hns
    obtain ⟨hrowCount, hrowsFit, rfl⟩ := takeCounted_iff.1 hrows
    obtain ⟨hcount, hordersFit, rfl⟩ := takeOrders_iff.1 horders
    have hchannels : (rows.flatMap (encFields [1])).length = rows.length := by
      rw [rows_length hrowsFit, List.sum_singleton, Nat.one_mul]
    refine ⟨encFields [1, 1, 1, 1, 2] ns, rows.flatMap (encFields [1]), orders.map orderRowParts, encFields_length hfit,
      by rwa [hchannels], by rw [List.length_map, hcount]; exact b.isLt,
      List.forall_mem_map.2 fun row hrow => orderRowParts_fit (hordersFit row hrow), ?_⟩
    rw [hchannels, List.length_map, hcount, byteOf_toNat, orderRows_bytes hordersFit, enc1]
    simp only [List.append_assoc, List.cons_append, List.nil_append]
  · rintro ⟨head, channels, orders, hhead, hchannels, hcount, hfit, rfl⟩
    obtain ⟨ns, hnsFit, rfl⟩ := exists_fields (widths := [1, 1, 1, 1, 2]) hhead
    obtain ⟨rows, hrowCount, hrowsFit, hrowBytes⟩ :=
      exists_rows (widths := [1]) (count := channels.length) (Nat.one_mul _).symm
    obtain ⟨orderRows, hordersFit, rfl⟩ := exists_orderRows hfit
    rw [orderRows_bytes hordersFit, List.length_map, List.append_assoc]
    rw [List.length_map] at hcount
    have hns := takeFields_iff.2 ⟨hnsFit, rfl (a := encFields [1, 1, 1, 1, 2] ns ++
      ((byteOf channels.length :: channels) ++ (byteOf orderRows.length :: orderRows.flatMap orderRowBytes)))⟩
    have hrows : takeCounted [1]
        ((byteOf channels.length :: channels) ++ (byteOf orderRows.length :: orderRows.flatMap orderRowBytes)) =
          some (rows, byteOf orderRows.length :: orderRows.flatMap orderRowBytes) :=
      takeCounted_iff.2 ⟨hrowCount ▸ hchannels, hrowsFit, by rw [hrowCount, ← hrowBytes, enc1]; rfl⟩
    have horders : takeOrders (byteOf orderRows.length).toNat (orderRows.flatMap orderRowBytes) = some orderRows :=
      takeOrders_iff.2 ⟨(toNat_byteOf hcount).symm, hordersFit, rfl⟩
    simp only [readLoadOrderSet, hns, hrows, horders]
    exact nofun

/-! ## READ_TABLE -/

/-- The kinds of READ_TABLE by their codes (R66): two without an index, four with one, and the unknown ones. -/
theorem tableKindOf_cases (n : Nat) :
    n ≤ 1 ∧ (tableKindOf n = some .partition ∨ tableKindOf n = some .stand) ∨
    2 ≤ n ∧ n ≤ 5 ∧ (∃ t, tableKindOf n = some t ∧ t ≠ .partition ∧ t ≠ .stand) ∨
    6 ≤ n ∧ tableKindOf n = none := by
  match n with
  | 0 | 1 | 2 | 3 | 4 | 5 => simp [tableKindOf]
  | n + 6 => simp [tableKindOf]

theorem readReadTable_one (k : Byte) : readReadTable [k] ≠ .error .badRequest ↔ k.toNat ≤ 1 ∨ 6 ≤ k.toNat := by
  obtain ⟨hk, h | h⟩ | ⟨hlo, hhi, t, h, hp, hs⟩ | ⟨hk, h⟩ := tableKindOf_cases k.toNat
  · simp [readReadTable, h, hk]
  · simp [readReadTable, h, hk]
  · have hnone : ¬(k.toNat ≤ 1 ∨ 6 ≤ k.toNat) := by omega
    simp [readReadTable, h, hnone]
  · simp [readReadTable, h, hk]

theorem readReadTable_two (k i : Byte) : readReadTable [k, i] ≠ .error .badRequest ↔ 2 ≤ k.toNat := by
  obtain ⟨hk, h | h⟩ | ⟨hlo, hhi, t, h, hp, hs⟩ | ⟨hk, h⟩ := tableKindOf_cases k.toNat
  · simp [readReadTable, h, Nat.lt_succ_of_le hk]
  · simp [readReadTable, h, Nat.lt_succ_of_le hk]
  · simp [readReadTable, h, hlo]
  · simp [readReadTable, h, Nat.le_trans (by decide : 2 ≤ 6) hk]

theorem readReadTable_passes (args : List Byte) : readReadTable args ≠ .error .badRequest ↔
    (args.length = 1 ∧ ((args.getD 0 0).toNat ≤ 1 ∨ 6 ≤ (args.getD 0 0).toNat)) ∨
    (args.length = 2 ∧ 2 ≤ (args.getD 0 0).toNat) := by
  match args with
  | [] => simp [readReadTable]
  | [k] => simpa using readReadTable_one k
  | [k, i] => simpa using readReadTable_two k i
  | k :: i :: b :: rest => simp [readReadTable]

/-! ## The whole check -/

theorem Request.form_of_none {q : Request} (h : q.args = none) : q.form = .error .badRequest := by
  simp only [Request.form, h]

theorem readArguments_of_unknown {kind : Nat} (h : kind ∉ [0x01, 0x02, 0x03, 0x08, 0x09, 0x10, 0x11, 0x12, 0x13, 0x14,
      0x18, 0x19, 0x20, 0x21, 0x22, 0x23, 0x24, 0x25, 0x30, 0x31, 0x32, 0x33, 0x34, 0x40, 0x41, 0x42, 0x48, 0x49, 0x50,
      0x51, 0x52]) (args : List Byte) : readArguments kind args = .error .badRequest := by
  unfold readArguments
  split
  case h_32 => rfl
  all_goals exact absurd (by decide) h

/-- Settles O18: each kind by what its reader passes. -/
theorem formCheckAllowsTheEncodedLengths : Obligations.FormCheckAllowsTheEncodedLengths := by
  refine ⟨fun q args k n hargs hk hmem => ?_, fun q args hargs hk => ?_, fun q args hargs hk => ?_,
    fun q args hargs hk => ?_, fun q args hargs hk => ?_, fun q => Request.form_of_none, fun q hk => ?_,
    fun q b hargs hk h1 h2 => ?_⟩
  · rw [Request.form_eq hargs hk]
    exact readArguments_passes (k, n) hmem args
  · rw [Request.form_eq hargs hk]
    exact readLoadStream_passes args
  · rw [Request.form_eq hargs hk]
    exact readLoadProfile_passes args
  · rw [Request.form_eq hargs hk]
    exact readLoadOrderSet_passes args
  · rw [Request.form_eq hargs hk]
    exact readReadTable_passes args
  · cases hargs : q.args with
    | none => exact Request.form_of_none hargs
    | some args => exact (Request.form_eq hargs rfl).trans (readArguments_of_unknown hk args)
  · rcases hk with hk | hk <;> rw [Request.form_eq hargs hk] <;> exact bayArgument_refuses _ h1 h2

end Sys2Proof.Machine
end

section
/-! The Configuration Loader: its image (R173) and the replay of its records (R174, R177). -/
namespace Sys2Proof.Machine

/-! ## The image (R173) -/

theorem decNat_pair (a b : Byte) : decNat [a, b] = a.toNat * 256 + b.toNat := by simp [decNat]

/-- The first record is cut off behind its length byte, and the rest is split. -/
theorem splitRecords_cons_iff {fuel : Nat} {n : Byte} {rest : List Byte} {records : List (List Byte)} :
    splitRecords (fuel + 1) (n :: rest) = some records ↔ n ≠ 0 ∧ n.toNat ≤ rest.length ∧
      ∃ more, splitRecords fuel (rest.drop n.toNat) = some more ∧ rest.take n.toNat :: more = records := by
  rw [splitRecords]
  split
  · next hbad =>
    refine iff_of_false nofun ?_
    rintro ⟨hpos, hroom, -⟩
    exact hbad.elim hpos (Nat.not_lt.2 hroom)
  · next hgood =>
    obtain ⟨hpos, hroom⟩ := not_or.1 hgood
    cases splitRecords fuel (rest.drop n.toNat) with
    | none => exact iff_of_false nofun nofun
    | some more =>
      simp only [Option.some.injEq, exists_eq_left', ne_eq, hpos, not_false_eq_true, Nat.le_of_not_lt hroom, true_and]

/-- Bytes split into records exactly where each record stands behind its own length byte. -/
theorem splitRecords_iff {fuel : Nat} {bytes : List Byte} {records : List (List Byte)} (h : bytes.length ≤ fuel) :
    splitRecords fuel bytes = some records ↔
      (∀ r ∈ records, 1 ≤ r.length ∧ r.length ≤ 255) ∧ records.flatMap (fun r => byteOf r.length :: r) = bytes := by
  induction fuel generalizing bytes records with
  | zero =>
    obtain rfl := List.eq_nil_of_length_eq_zero (Nat.le_zero.1 h)
    cases records <;> simp [splitRecords]
  | succ fuel ih =>
    cases bytes with
    | nil => cases records <;> simp [splitRecords]
    | cons n rest =>
      have hrest : (rest.drop n.toNat).length ≤ fuel := by
        rw [List.length_cons] at h
        rw [List.length_drop]
        omega
      rw [splitRecords_cons_iff]
      constructor
      · rintro ⟨hpos, hroom, more, hmore, rfl⟩
        obtain ⟨hlens, hbytes⟩ := (ih hrest).1 hmore
        have hlen : (rest.take n.toNat).length = n.toNat := List.length_take_of_le hroom
        have hpos' : n.toNat ≠ 0 := fun h0 => hpos (BitVec.eq_of_toNat_eq h0)
        have hmax := n.isLt
        refine ⟨List.forall_mem_cons.2 ⟨by omega, hlens⟩, ?_⟩
        rw [List.flatMap_cons, hbytes, hlen, byteOf_toNat, List.cons_append, List.take_append_drop]
      · rintro ⟨hlens, hbytes⟩
        match records with
        | [] => cases hbytes
        | r :: more =>
          obtain ⟨⟨hpos, hmax⟩, hmoreLens⟩ := List.forall_mem_cons.1 hlens
          rw [List.flatMap_cons, List.cons_append] at hbytes
          obtain ⟨rfl, rfl⟩ := List.cons.inj hbytes
          have hlen : (byteOf r.length).toNat = r.length := toNat_byteOf (by omega)
          have hzero : byteOf r.length ≠ 0 := fun h0 => by rw [h0] at hlen; exact absurd hlen (by simp; omega)
          rw [hlen, List.drop_left] at hrest ⊢
          exact ⟨hzero, by simp, more, (ih hrest).2 ⟨hmoreLens, rfl⟩, by rw [List.take_left]⟩

theorem readImage_iff (l0 l1 s0 s1 : Byte) (rest : List Byte) (records : List (List Byte)) :
    readImage (some (l0 :: l1 :: s0 :: s1 :: rest)) = some records ↔
      let len := l0.toNat * 256 + l1.toNat
      1 ≤ len ∧ len ≤ 65532 ∧ len ≤ rest.length ∧
        ((rest.take len).map BitVec.toNat).sum % 65536 = s0.toNat * 256 + s1.toNat ∧
        (∀ r ∈ records, 1 ≤ r.length ∧ r.length ≤ 255) ∧
        records.flatMap (fun r => byteOf r.length :: r) = rest.take len := by
  rw [← decNat_pair l0 l1, ← decNat_pair s0 s1]
  unfold readImage
  dsimp only
  generalize decNat [l0, l1] = len
  by_cases hlen : len = 0 ∨ 65532 < len ∨ rest.length < len
  · rw [if_pos hlen]
    exact iff_of_false nofun fun ⟨h1, h2, h3, _⟩ => by omega
  by_cases hsum : byteSum (rest.take len) = decNat [s0, s1]
  · rw [if_neg hlen, if_neg (not_not.2 hsum), splitRecords_iff (List.length_take_le _ _)]
    exact ⟨fun h => ⟨by omega, by omega, by omega, hsum, h⟩, fun ⟨_, _, _, _, h⟩ => h⟩
  · rw [if_neg hlen, if_pos hsum]
    exact iff_of_false nofun fun ⟨_, _, _, h, _⟩ => hsum h

theorem imageRead_of_good {s : State} {image : Option (List Byte)} {records : List (List Byte)}
    (h : readImage image = some records) : imageRead s image = s.setLoader (.replaying 1 records none) := by
  simp only [imageRead, h]

theorem imageRead_of_bad {s : State} {image : Option (List Byte)} (h : readImage image = none) :
    imageRead s image = loadFails s 0 := by
  simp only [imageRead, h]

theorem configImageRead_happens {s : State} (image : Option (List Byte)) (h : s.pins.resetHeld = false)
    (hl : s.loader = .reading) : happens (.configImageRead image) s (imageRead s image) :=
  happens_of_whenDue (effect := fun s => imageRead s image) rfl h (decide_eq_true hl)

/-! ## One stored request (R174) -/

theorem replayRequest_of_effect {s : State} {q : Request} {r : Req} {effect : State → State × Answer}
    (hf : q.form = .ok r) (he : effectOf r = some effect) :
    replayRequest s q = ((effect s).1, decide ((effect s).2.code = .ok)) := by
  simp only [replayRequest, hf, he]

/-- An ill-formed record and a RESET fail, and leave the state alone. -/
theorem replayRequest_of_failing {s : State} {q : Request} (h : ∀ r, q.form = .ok r → r = .reset) :
    replayRequest s q = (s, false) := by
  cases hf : q.form with
  | error c => simp only [replayRequest, hf]
  | ok r =>
    obtain rfl := h r hf
    simp only [replayRequest, hf, effectOf]

/-! ## One stored record (R174, R177) -/

section
variable {s : State} {a : Option Assembly} {record : List Byte}

theorem replayRecord_of_broken (hdrop : (handlePart a s.timeBase 0 record).dropped = true) (ha : a ≠ none) :
    replayRecord s a record = (s, false, none) := by
  simp only [replayRecord, hdrop, if_true, Option.isSome_iff_ne_none.2 ha]

theorem replayRecord_of_stray (hdrop : (handlePart a s.timeBase 0 record).dropped = true) (ha : a = none) :
    replayRecord s a record =
      (s.setFreeCount (s.freeCount + 1), Config.droppedRecordGoesOn s.freeCount, none) := by
  subst ha
  simp only [replayRecord, hdrop, if_true, Option.isSome_none, Bool.false_eq_true, if_false]

theorem replayRecord_of_joined (hdrop : (handlePart a s.timeBase 0 record).dropped = false)
    (hreq : (handlePart a s.timeBase 0 record).requests = []) :
    replayRecord s a record = (s, true, (handlePart a s.timeBase 0 record).assembly) := by
  simp only [replayRecord, hdrop, Bool.false_eq_true, if_false, hreq]

theorem replayRecord_of_request {q : Request} {more : List Request}
    (hdrop : (handlePart a s.timeBase 0 record).dropped = false)
    (hreq : (handlePart a s.timeBase 0 record).requests = q :: more) :
    replayRecord s a record =
      ((replayRequest s q).1, (replayRequest s q).2, (handlePart a s.timeBase 0 record).assembly) := by
  simp only [replayRecord, hdrop, Bool.false_eq_true, if_false, hreq]

end

/-! ## The replay (R174) -/

/-- The replay goes on after record `n`: with the next record, or, after the last one, into LOADED unless an assembly is
left open. -/
def replayGoesOn (n : Nat) (rest : List (List Byte)) (u : State) (b : Option Assembly) : State :=
  match rest with
  | [] => if b.isSome then loadFails u n else u.setLoader (.loaded n)
  | _ :: _ => u.setLoader (.replaying (n + 1) rest b)

theorem replayNext_eq {s u : State} {a b : Option Assembly} {record : List Byte} {goes : Bool}
    (h : replayRecord s a record = (u, goes, b)) (n : Nat) (rest : List (List Byte)) :
    replayNext s n record rest a = if goes = true then replayGoesOn n rest u b else loadFails u n := by
  cases goes <;> cases rest <;> simp [replayNext, h, replayGoesOn]

theorem configRecordReplay_happens {s : State} {n : Nat} {record : List Byte} {rest : List (List Byte)}
    {a : Option Assembly} (h : s.pins.resetHeld = false) (hl : s.loader = .replaying n (record :: rest) a) :
    happens .configRecordReplay s (replayNext s n record rest a) := by
  refine happens_of_whenDue (due := true) (effect := fun s => replayNext s n record rest a) ?_ h rfl
  simp only [exec, execConfigRecordReplay, hl]

/-- Settles O23: the image by `readImage_iff`, and a record by what `replayRecord` makes of it. -/
theorem loaderChecksAndReplaysItsImage : Obligations.LoaderChecksAndReplaysItsImage := by
  refine ⟨readImage_iff, fun s image records h hl hgood => ?_, fun s image h hl hbad => ?_, rfl, ?_⟩
  · rw [← imageRead_of_good hgood]
    exact configImageRead_happens image h hl
  · exact (congrArg (happens _ s) (imageRead_of_bad hbad)).mp (configImageRead_happens image h hl)
  intro s n record rest a h hl
  have hreplay {u : State} {goes : Bool} {b : Option Assembly} (hr : replayRecord s a record = (u, goes, b)) :
      happens .configRecordReplay s (if goes = true then replayGoesOn n rest u b else loadFails u n) := by
    rw [← replayNext_eq hr]
    exact configRecordReplay_happens h hl
  refine ⟨fun hdrop ha => hreplay (replayRecord_of_broken hdrop ha),
    fun hdrop ha => hreplay (replayRecord_of_stray hdrop ha),
    fun hdrop hreq => hreplay (replayRecord_of_joined hdrop hreq), fun q more hdrop hreq => ?_⟩
  have hrecord := replayRecord_of_request hdrop hreq
  constructor
  · intro r effect hf he
    rw [replayRequest_of_effect hf he] at hrecord
    have hnext := hreplay hrecord
    simp only [decide_eq_true_eq] at hnext
    exact hnext
  · intro hfail
    rw [replayRequest_of_failing hfail] at hrecord
    exact hreplay hrecord

end Sys2Proof.Machine
end

section
/-! The queue of waiting commands: a step takes its front, and every command answers a next state and leaves it alone.
`JobStep`, `IntakeStep` and `LineStep` say so of the jobs, the Stream Intake and the idle line; the lemmas here say it
of the operations around them. -/
namespace Sys2Proof.Machine

/-! ## The Request Unit, the ring and the Configuration Loader -/

theorem pump_pending (s : State) : (pump s).pending = s.pending := (pump_lineStep s).pending

theorem enqueueRequest_pending (s : State) (q : Request) : (enqueueRequest s q).pending = s.pending := by
  unfold enqueueRequest; split <;> rfl

theorem receiveRequest_pending (s : State) (src : Nat) (payload : List Byte) :
    (receiveRequest s src payload).pending = s.pending := by
  have hqueued (qs : List Request) (t : State) : (qs.foldl enqueueRequest t).pending = t.pending := by
    induction qs generalizing t with
    | nil => rfl
    | cons q qs ih => exact (ih _).trans (enqueueRequest_pending t q)
  exact hqueued _ _

theorem assemblyExpires_pending (s : State) : (assemblyExpires s).pending = s.pending := by
  unfold assemblyExpires
  split
  · rfl
  · exact enqueueRequest_pending _ _

theorem forwardFrame_pending (s : State) (frame : List Byte) : (forwardFrame s frame).pending = s.pending := by
  unfold forwardFrame; (repeat' split) <;> rfl

theorem goodArrival_pending (s : State) : (goodArrival s).pending = s.pending := by
  unfold goodArrival; dsimp only; split <;> rfl

theorem handleRow_pending (s : State) (f : Frame) (row : Row) : (handleRow s f row).pending = s.pending := by
  have hin (t : State) (i : Nat) (cfg : StreamConfig) : (intake t i cfg f.payload).pending = t.pending :=
    (intake_intakeStep t i cfg f.payload).pending
  unfold handleRow
  cases row with
  | stripped | expired => rfl
  | consumed =>
    dsimp only
    split
    · exact receiveRequest_pending s _ _
    · rfl
  | matched i cfg =>
    dsimp only
    split
    · exact (hin _ i cfg).trans (forwardFrame_pending s _)
    · exact hin s i cfg
  | other => exact forwardFrame_pending s _

theorem arrive_pending (s : State) (bytes : List Byte) : (arrive s bytes).pending = s.pending := by
  unfold arrive
  repeat' split
  · rfl
  · rfl
  · exact forwardFrame_pending _ _
  · exact (handleRow_pending _ _ _).trans (goodArrival_pending s)

theorem reportTransmitted_pending (s : State) (o : Origin) : (reportTransmitted s o).pending = s.pending := by
  cases o with
  | transit | notice | drive | valve => rfl
  | reply => simp only [reportTransmitted, reportReply]; (repeat' split) <;> rfl
  | report number segment => simp only [reportTransmitted, reportSegment]; (repeat' split) <;> rfl

theorem lineEnds_pending (s : State) : (lineEnds s).pending = s.pending := by
  unfold lineEnds
  split
  · rfl
  · exact reportTransmitted_pending _ _

theorem imageRead_pending (s : State) (image : Option (List Byte)) : (imageRead s image).pending = s.pending := by
  unfold imageRead; split <;> rfl

/-! ## Resets (R169, R170, R172, R173) -/

theorem resetEnd_pending (s : State) (straps : BitVec 4) (load asserted : Bool) :
    (if s.pins.resetHeld then startUp s straps load asserted else s).pending = s.pending := by split <;> rfl

theorem safeCommands_pending (s : State) (src tag : Nat) : (safeCommands s src tag).pending = s.pending :=
  ((issueDriveNow_jobStep s _ _ _ _).trans (issueValve_jobStep _ _)).pending

theorem completeReset_pending (s : State) (src tag : Nat) : (completeReset s src tag).pending = s.pending := by
  rw [completeReset, clearWork_eq]
  rfl

theorem executeReset_pending (s : State) : (executeReset s).pending = s.pending := by
  unfold executeReset
  repeat' split
  · rfl
  · refine (pump_pending _).trans ?_
    unfold beginReset
    split
    · exact safeCommands_pending _ _ _
    · exact completeReset_pending _ _ _
  · rfl

/-! ## The effects of the requests (R166) -/

theorem bindTables_pending (z : Sizes) (s : State) : (bindTables z s).1.pending = s.pending := by
  unfold bindTables; (repeat' split) <;> rfl

theorem setNotice_pending (settings : Option NoticeSettings) (s : State) :
    (setNotice settings s).1.pending = s.pending := by
  unfold setNotice; split <;> rfl

theorem clearNotice_pending (sources : BitVec 16) (s : State) : (clearNotice sources s).1.pending = s.pending := by
  unfold clearNotice; split <;> rfl

theorem loadStream_pending (i : Nat) (config : Option StreamConfig) (s : State) :
    (loadStream i config s).1.pending = s.pending := by
  unfold loadStream
  dsimp only
  repeat' split
  · rfl
  · rfl
  · rfl
  · exact (streamGone_jobStep s i _).pending
  · rfl

theorem loadChannel_pending (c : Nat) (cfg : Option ChannelConfig) (s : State) :
    (loadChannel c cfg s).1.pending = s.pending := by
  unfold loadChannel; (repeat' split) <;> rfl

theorem channelEnable_pending (c : Nat) (acquire diagnose : Option Bool) (s : State) :
    (channelEnable c acquire diagnose s).1.pending = s.pending := by
  unfold channelEnable
  dsimp only
  repeat' split
  · rfl
  · exact (channelLost_jobStep _ c).pending
  · rfl
  · rfl

theorem clearChannel_pending (c : Nat) (s : State) : (clearChannel c s).1.pending = s.pending := by
  unfold clearChannel; split <;> rfl

theorem clearAngle_pending (s : State) : (clearAngle s).1.pending = s.pending := by
  unfold clearAngle; split <;> rfl

theorem angleFieldsChange_jobStep (s : State) (new : Stand) : JobStep s (angleFieldsChange s new) := by
  unfold angleFieldsChange
  split
  · exact .refl s
  · next old _ =>
    have h : JobStep s (if old.sameAngle new then s else loseReference s) :=
      jobStep_ite (.refl s) (loseReference_jobStep s)
    exact jobStep_ite h (h.trans (clearHistory_jobStep _))

theorem loadStand_pending (record : Option Stand) (s : State) : (loadStand record s).1.pending = s.pending := by
  unfold loadStand
  repeat' split
  · rfl
  · rfl
  · rfl
  · exact (angleFieldsChange_jobStep s _).pending

theorem loadVariant_pending (slot : Nat) (record : Option Variant) (s : State) :
    (loadVariant slot record s).1.pending = s.pending := by
  unfold loadVariant; (repeat' split) <;> rfl

theorem loadProfile_pending (p : Nat) (segments : Option (List Segment)) (s : State) :
    (loadProfile p segments s).1.pending = s.pending := by
  unfold loadProfile; (repeat' split) <;> rfl

theorem loadOrderSet_pending (slot : Nat) (set : Option OrderSet) (s : State) :
    (loadOrderSet slot set s).1.pending = s.pending := by
  unfold loadOrderSet; (repeat' split) <;> simp [(updateSlot_jobStep s _ _).pending]

theorem swapOrderSet_pending (slot : Nat) (s : State) : (swapOrderSet slot s).1.pending = s.pending := by
  unfold swapOrderSet
  (repeat' split) <;> simp [(updateSlot_jobStep s _ _).pending, (carryOutSwap_jobStep s _ _ _).pending]

theorem admitUnit_pending (serial : Serial) (variant : Nat) (s : State) :
    (admitUnit serial variant s).1.pending = s.pending := by
  unfold admitUnit; (repeat' split) <;> rfl

theorem advanceA_pending (s : State) : (advanceA s).1.pending = s.pending := by
  unfold advanceA; (repeat' split) <;> rfl

theorem advanceB_pending (s : State) : (advanceB s).1.pending = s.pending := by
  unfold advanceB; (repeat' split) <;> rfl

theorem setStats_pending (s : State) (slot : Nat) (stats : Stats) : (setStats s slot stats).pending = s.pending := by
  unfold setStats; split <;> rfl

theorem onStats_pending (slot : Nat) (f : Stats → Stats) (s : State) : (onStats slot f s).1.pending = s.pending := by
  unfold onStats; (repeat' split) <;> simp [setStats_pending]

theorem releaseStats_pending (s : State) (u : UnitRecord) (v : Verdict) :
    (releaseStats s u v).pending = s.pending := by
  unfold releaseStats
  split
  · rfl
  · dsimp only
    split <;> exact setStats_pending s _ _

theorem release_pending (s : State) : (release s).1.pending = s.pending := by
  unfold release
  dsimp only
  repeat' split
  · rfl
  · rfl
  · rfl
  · exact releaseStats_pending s _ _

theorem withdraw_pending (serial : Serial) (s : State) : (withdraw serial s).1.pending = s.pending := by
  unfold withdraw; (repeat' split) <;> rfl

theorem startSpin_pending (s : State) : (startSpin s).1.pending = s.pending := by
  unfold startSpin
  split
  · rfl
  · exact (beginSegment_jobStep _ 0).pending

theorem abortSpin_pending (s : State) : (abortSpin s).1.pending = s.pending := by
  unfold abortSpin
  split
  · rfl
  · exact (takeOutcome_jobStep s _).pending

theorem clearFaultA_pending (s : State) : (clearFaultA s).1.pending = s.pending := by
  unfold clearFaultA
  repeat' split
  · rfl
  · exact ((updateRun_jobStep s _).trans (issueDrive_jobStep _ _ _ _ _)).pending
  · rfl

theorem startLeak_pending (s : State) : (startLeak s).1.pending = s.pending := by
  unfold startLeak
  split
  · rfl
  · exact (issueValve_jobStep _ .fill).pending

theorem abortLeak_pending (s : State) : (abortLeak s).1.pending = s.pending := by
  unfold abortLeak
  split
  · rfl
  · exact (takeLeakOutcome_jobStep s _ _).pending

theorem clearFaultB_pending (s : State) : (clearFaultB s).1.pending = s.pending := by
  unfold clearFaultB
  repeat' split
  · rfl
  · exact ((updateTest_jobStep _ _).trans (issueValve_jobStep _ .vent)).pending
  · rfl

/-! ## Every request -/

theorem effectOf_pending (s : State) : ∀ (r : Req) (effect : State → State × Answer), effectOf r = some effect →
    (effect s).1.pending = s.pending
  | .bind _, _, rfl => bindTables_pending _ s
  | .readStatus, _, rfl => rfl
  | .setNotice _, _, rfl => setNotice_pending _ s
  | .clearNotice _, _, rfl => clearNotice_pending _ s
  | .loadStream _ _, _, rfl => loadStream_pending _ _ s
  | .loadChannel _ _, _, rfl => loadChannel_pending _ _ s
  | .channelEnable _ _ _, _, rfl => channelEnable_pending _ _ _ s
  | .clearChannel _, _, rfl => clearChannel_pending _ s
  | .readChannel _ _, _, rfl => congrArg State.pending (readChannel_state _ _ s)
  | .readAngle, _, rfl => rfl
  | .clearAngle, _, rfl => clearAngle_pending s
  | .loadStand _, _, rfl => loadStand_pending _ s
  | .loadVariant _ _, _, rfl => loadVariant_pending _ _ s
  | .loadProfile _ _, _, rfl => loadProfile_pending _ _ s
  | .loadOrderSet _ _, _, rfl => loadOrderSet_pending _ _ s
  | .swapOrderSet _, _, rfl => swapOrderSet_pending _ s
  | .readTable _ _, _, rfl => congrArg State.pending (readTable_state _ _ s)
  | .admitUnit _ _, _, rfl => admitUnit_pending _ _ s
  | .advance .a, _, rfl => advanceA_pending s
  | .advance .b, _, rfl => advanceB_pending s
  | .release, _, rfl => release_pending s
  | .withdraw _, _, rfl => withdraw_pending _ s
  | .readUnit _ _ _, _, rfl => congrArg State.pending (readUnit_state _ _ _ s)
  | .startSpin, _, rfl => startSpin_pending s
  | .abortSpin, _, rfl => abortSpin_pending s
  | .clearFault .a, _, rfl => clearFaultA_pending s
  | .clearFault .b, _, rfl => clearFaultB_pending s
  | .startLeak, _, rfl => startLeak_pending s
  | .abortLeak, _, rfl => abortLeak_pending s
  | .readStats _, _, rfl => congrArg State.pending (readStats_state _ s)
  | .clearStats _, _, rfl => onStats_pending _ _ s
  | .releaseVariant _, _, rfl => onStats_pending _ _ s

theorem executeOne_pending {s : State} (q : Request) {effect : State → State × Answer}
    (h : (effect (dequeue s)).1.pending = s.pending) : (executeOne s q effect).pending = s.pending :=
  (pump_pending (enqueueReply _ (replyTo q (effect (dequeue s)).2))).trans h

theorem executeKind_pending (s : State) {pick : Req → Option (State → State × Answer)}
    (h : ∀ r effect, pick r = some effect → effectOf r = some effect) :
    (executeKind s pick).pending = s.pending := by
  rcases executeKind_cases s pick with he | ⟨q, r, effect, -, -, hp, he⟩ <;> rw [he]
  exact executeOne_pending q (effectOf_pending _ r effect (h r effect hp))

theorem executeBad_pending (s : State) : (executeBad s).pending = s.pending := by
  unfold executeBad
  repeat' split
  · rfl
  · rfl
  · exact executeOne_pending _ rfl

/-! ## The replay (R174) -/

theorem replayRequest_pending (s : State) (q : Request) : (replayRequest s q).1.pending = s.pending := by
  unfold replayRequest
  repeat' split
  · rfl
  · rfl
  · exact effectOf_pending s _ _ ‹_›

theorem replayRecord_pending (s : State) (assembly : Option Assembly) (record : List Byte) :
    (replayRecord s assembly record).1.pending = s.pending := by
  unfold replayRecord
  dsimp only
  repeat' split
  · rfl
  · rfl
  · rfl
  · exact replayRequest_pending s _

theorem replayNext_pending (s : State) (next : Nat) (record : List Byte) (rest : List (List Byte))
    (assembly : Option Assembly) : (replayNext s next record rest assembly).pending = s.pending := by
  rw [← replayRecord_pending s assembly record]
  unfold replayNext
  dsimp only
  (repeat' split) <;> rfl

/-! ## Every command -/

theorem whenDue_pending {s : State} {due : Bool} {effect : State → State} (h : (effect s).pending = s.pending) :
    (whenDue s due effect).pending = s.pending := by
  rcases whenDue_cases s due effect with he | ⟨-, -, he⟩ <;> rw [he]
  exact (pump_pending _).trans h

theorem guard_pending (s : State) (asserted : Bool) :
    (if asserted = s.pins.guardLow then s
      else whenDue (setGuardPin s asserted) (s.ring.port != .bypass) (fun s => guardEdge s asserted)).pending =
      s.pending := by
  split
  · rfl
  · exact whenDue_pending (s := setGuardPin s asserted) (guardEdge_jobStep _ _).pending

/-- Settles O3: a request row runs `executeKind`, and each other row its event or reset. -/
theorem everyCommandAnswersANextState : Obligations.EveryCommandAnswersANextState := by
  intro c s
  cases hp : pickOf c with
  | some pick => exact ⟨_, exec_of_pickOf hp s, executeKind_pending s (effectOf_of_pickOf hp)⟩
  | none =>
    cases c with
    | powerOn | pinReset => exact ⟨_, rfl, rfl⟩
    | resetEnd straps load asserted => exact ⟨_, rfl, resetEnd_pending s straps load asserted⟩
    | configImageRead image => exact ⟨_, rfl, whenDue_pending (imageRead_pending s image)⟩
    | configRecordReplay =>
      simp only [exec, execConfigRecordReplay]
      split
      · exact ⟨_, rfl, whenDue_pending (replayNext_pending s _ _ _ _)⟩
      · exact ⟨_, rfl, rfl⟩
    | frameArrival bytes => exact ⟨_, rfl, whenDue_pending (arrive_pending s bytes)⟩
    | fragment => exact ⟨_, rfl, whenDue_pending rfl⟩
    | transmissionEnd => exact ⟨_, rfl, whenDue_pending (lineEnds_pending s)⟩
    | ringDownTimeout => exact ⟨_, rfl, whenDue_pending rfl⟩
    | staleTimeout entry => exact ⟨_, rfl, whenDue_pending (staleExpires_intakeStep s entry).pending⟩
    | guard asserted => exact ⟨_, rfl, guard_pending s asserted⟩
    | assemblyTimeout => exact ⟨_, rfl, whenDue_pending (assemblyExpires_pending s)⟩
    | rampEnd => exact ⟨_, rfl, whenDue_pending (enterSettle_jobStep s).pending⟩
    | settleEnd => exact ⟨_, rfl, whenDue_pending (holdEntry_jobStep s).pending⟩
    | holdEnd => exact ⟨_, rfl, whenDue_pending (endHold_jobStep s).pending⟩
    | speedPersistExpiry => exact ⟨_, rfl, whenDue_pending (takeOutcome_jobStep s _).pending⟩
    | driveRefresh => exact ⟨_, rfl, whenDue_pending (repeatDrive_jobStep s).pending⟩
    | stopTimeout =>
      simp only [exec, execStopTimeout]
      split
      · exact ⟨_, rfl, rfl⟩
      · exact ⟨_, rfl, whenDue_pending (stopTimedOut_jobStep s _).pending⟩
    | fillTimeout => exact ⟨_, rfl, whenDue_pending (takeLeakOutcome_jobStep s _ _).pending⟩
    | leakSettleEnd => exact ⟨_, rfl, whenDue_pending (enterMeasure_jobStep s).pending⟩
    | measureEnd => exact ⟨_, rfl, whenDue_pending (endMeasure_jobStep s).pending⟩
    | ventTimeout =>
      simp only [exec, execVentTimeout]
      split
      · exact ⟨_, rfl, rfl⟩
      · exact ⟨_, rfl, whenDue_pending (ventTimedOut_jobStep s _).pending⟩
    | valveRefresh => exact ⟨_, rfl, whenDue_pending (repeatValve_jobStep s).pending⟩
    | badRequest => exact ⟨_, rfl, executeBad_pending s⟩
    | reset => exact ⟨_, rfl, executeReset_pending s⟩
    | stationResetClearing =>
      simp only [exec, execStationResetClearing]
      split
      · exact ⟨_, rfl, rfl⟩
      · exact ⟨_, rfl, whenDue_pending (completeReset_pending s _ _)⟩
    | _ => cases hp

theorem step_of_front {s : State} {c : Instr} {rest : List Instr} (h : s.pending = c :: rest) :
    step s = exec c (s.setPending rest) := by
  simp only [step, h]

/-- Settles O1: the first case of `step`. -/
theorem stepTakesFrontCommand : Obligations.StepTakesFrontCommand := fun _ _ _ => step_of_front

end Sys2Proof.Machine
end
